-- ==== Sys2Proof/Word.lean ====
section
/-! DEFINITION. The word types of the CG-40 model: what the manual treats as bits is a bit vector here
(bytes, sequence numbers modulo 16, times counted modulo 2^32); counts, lengths and physical quantities
are Nat or Int. -/

namespace Sys2Proof

/-- One byte of a payload, of a service record or of the profile image (R193). -/
abbrev Byte := BitVec 8

/-- A sequence number, 0..15, counted modulo 16 (R3, R13). -/
abbrev Seq := BitVec 4

/-- A time in 0.1 ms from the completion of the profile load, counted modulo 2^32 (R68, R81, R150). -/
abbrev Stamp := BitVec 32

/-- A level on the chassis link: `true` is recessive and stands for 1, `false` is dominant and stands
for 0 (R192). -/
abbrev Level := Bool

end Sys2Proof
end

