-- ==== Sys2Proof/Syntax.lean ====
section
/-! DEFINITION. The commands of the CG-40: one constructor for each row of the table of operations and
events. A command is an event of the block: a whole frame on the link, a moment of the part's own sending,
the end of a memory burst, or the expiry of one of its timers. -/

namespace Sys2Proof

/-- The eight entries of the Topic Store, in the order of the table of R19. -/
inductive EntryName where
  | wheelSpeeds
  | inertialRates
  | inertialAccel
  | inertialLean
  | engineState
  | brakeState
  | suspensionState
  | dashSelect
deriving DecidableEq, Repr

/-- A consumer of limit frames: the engine controller (ENGINE list) or the brake modulator (BRAKE list),
R152. -/
inductive Consumer where
  | engine
  | brake
deriving DecidableEq, Repr

/-- The commands, in the order of the table. `after` is the time in 0.1 ms that has passed since the
command before, for an event that the outside times; the expiry of a timer takes place at the moment its
timer runs out, so it carries no time of its own (log entry 1). `min` is what the MIN pin carried during a
memory burst: `none` when the serial memory answered with what it holds, `some bytes` when the part read
these 64 bytes in its place (a missing, mute or faulty memory, R180; log entry 2). -/
inductive Instr where
  /-- POWER_ON (R180): the supply rises or RSTN is asserted. -/
  | powerOn
  /-- PROFILE_LOAD_COMPLETE (R183): the fourth read burst of the load ends. -/
  | profileLoadComplete (min : Option (List Byte))
  /-- FRAME_HEARD (R5): a whole frame has been heard; `bits` are the levels on the medium from the start
  bit on, stuff bits included (R192). -/
  | frameHeard (after : Nat) (bits : List Level)
  /-- FRAME_START (R7): the medium is idle and a waiting frame may start. -/
  | frameStart (after : Nat)
  /-- ARBITRATION_LOSS (R7, R12): the medium carried the priority key `key` in the arbitration field. -/
  | arbitrationLoss (after : Nat) (key : Nat)
  /-- COLLIDED (R8): a bit read back after the arbitration field differs from the bit sent. -/
  | collided (after : Nat)
  /-- ACK_SLOT_READ (R9): the two bits read in the acknowledgement slot of the frame on the wire. -/
  | ackSlotRead (after : Nat) (first second : Level)
  /-- MUTE_EXPIRY (R17). -/
  | muteExpiry
  /-- JOIN_WAIT_EXPIRY (R16). -/
  | joinWaitExpiry
  /-- DEADLINE_EXPIRY (R30) of one entry. -/
  | deadlineExpiry (e : EntryName)
  /-- STALE_EXPIRY (R31) of one entry. -/
  | staleExpiry (e : EntryName)
  /-- AT_REST_EXPIRY (R47). -/
  | atRestExpiry
  /-- BASE_VALIDITY_EXPIRY (R56). -/
  | baseValidityExpiry
  /-- RELIEF_EXPIRY (R96). -/
  | reliefExpiry
  /-- REGULATION_STEP (R103). -/
  | regulationStep
  /-- BRAKE_STEP (R129). -/
  | brakeStep
  /-- GRIP_STATE (R151): the expiry of the GRIP_STATE timer. -/
  | gripState
  /-- ECHO_DEADLINE_EXPIRY (R155): the deadline of the oldest entry of a consumer's echo list. -/
  | echoDeadlineExpiry (c : Consumer)
  /-- ASSERTION_END_EXPIRY (R163). -/
  | assertionEndExpiry
  /-- CUT_PERIOD_EXPIRY (R163, R167). -/
  | cutPeriodExpiry
  /-- LT_STATUS (R178): the expiry of the LT_STATUS timer. -/
  | ltStatus
  /-- WINDOW_EXPIRY (R184). -/
  | windowExpiry
  /-- STORE_PAGE_BURST_END (R188): the programming burst of a page ends. -/
  | storePageBurstEnd (after : Nat)
  /-- STORE_PAGE_DONE (R188): the memory reports the page done. -/
  | storePageDone (after : Nat)
  /-- STORE_PAGE_TIMEOUT (R188): 15 ms have run without a done report. -/
  | storePageTimeout
  /-- STORE_READBACK_COMPLETE (R188): the fourth read-back burst of a store ends. -/
  | storeReadbackComplete (after : Nat) (min : Option (List Byte))
  /-- MEDIUM_IDLE (R192): a run of 14 recessive bits has been read. -/
  | mediumIdle (after : Nat)
  /-- READ_BURST_END (R180, R188): one of the first three read bursts of a load or a read-back ends. -/
  | readBurstEnd (after : Nat) (min : Option (List Byte))
deriving DecidableEq, Repr

end Sys2Proof
end

