-- ==== Sys2Proof/Decode.lean ====
section
/-! DEFINITION. The table of operations and events gives no row any bits: no command of this block is
spelled by a word, so a word spells none. (The bits of a frame on the wire are decoded in
Machine/Wire.lean, and its payload in Machine/Operands.lean.) -/

namespace Sys2Proof

/-- The command that a word spells by the table's bits: none, since no row of the table gives bits. -/
def decodeTableWord (_nbits _w : Nat) : Option Instr := none

end Sys2Proof
end

