-- ==== Sys2Proof/Config.lean ====
section
/-! DEFINITION. What an implementation fixes outside the manual: the one free value of the model. -/

namespace Sys2Proof

/-- FREE VALUE. The byte that the serial memory holds at an address of a page that was being programmed
when the store ended without a done report of that page (R188, R189: the memory fitted lies outside the
manual). The first argument is the number of the draw (`State.draws`), the second the address.
It has no body: nothing in the model depends on its value. Log entry 3. -/
opaque Config.interruptedPageByte : Nat → Nat → Byte

end Sys2Proof
end

