-- ==== Sys2Proof/Machine/Arith.lean ====
section
/-! DEFINITION. The manual's arithmetic (R1): clamps, roundings, the integer square root and the counts
that stay at their maximum. Division of integers by a positive number is Lean's `/`, which takes the floor. -/

namespace Sys2Proof.Machine

/-- "Clamped to a..b" on whole numbers (R1). -/
def clampNat (lo hi x : Nat) : Nat :=
  if x < lo then lo else if hi < x then hi else x

/-- "Clamped to a..b" on signed numbers (R1). -/
def clampInt (lo hi x : Int) : Int :=
  if x < lo then lo else if hi < x then hi else x

/-- A 16-bit count after `k` more causes: it stays at 65535 once it has reached it (R18, R21). -/
def addCount (n k : Nat) : Nat := min 65535 (n + k)

/-- A 16-bit count after one more cause. -/
def bump (n : Nat) : Nat := addCount n 1

/-- A count or run of 0..255 after one more cause (R21, R71, R157, R158, R172). -/
def bump255 (n : Nat) : Nat := min 255 (n + 1)

/-- The quotient of two whole numbers, rounded up (R120). -/
def ceilDiv (a b : Nat) : Nat := (a + b - 1) / b

/-- A signed number divided by 10 and rounded half away from zero (R69). -/
def tenthRounded (x : Int) : Int :=
  if x < 0 then -((-x + 5) / 10) else (x + 5) / 10

/-- The digits of the integer square root of `n` from bit `k - 1` down, above the part `r` already
found. -/
def isqrtFrom : Nat → Nat → Nat → Nat
  | 0, _, r => r
  | k + 1, n, r => isqrtFrom k n (if (r + 2 ^ k) * (r + 2 ^ k) ≤ n then r + 2 ^ k else r)

/-- The integer square root of a number below 2^32: the largest whole number whose square is at most it
(R1, R86). -/
def isqrt (n : Nat) : Nat := isqrtFrom 16 n 0

/-- The number with the magnitude `n` and the sign of `s`; 0 when `s` is 0 (R60). -/
def withSign (n : Nat) (s : Int) : Int :=
  if s < 0 then -(n : Int) else if s = 0 then 0 else n

end Sys2Proof.Machine
end

