-- ==== Sys2Proof/Machine/Memory.lean ====
section
/-! DEFINITION. A byte store addressed from 0: the serial configuration memory, the image being read and
the pending image are three of them. It is a list of (address, byte) pairs in one canonical form: addresses
strictly rise and no byte listed is the erased byte. -/

namespace Sys2Proof.Machine

/-- A byte store (R180, R183, R188). -/
abbrev Memory := List Host.Cell

/-- What an unlisted address reads as: the byte of an erased memory (R181; log entry 4). -/
def erasedByte : Byte := 0xFF

/-- The byte at an address. -/
def Memory.read : Memory → Nat → Byte
  | [], _ => erasedByte
  | (a, b) :: rest, x => if a = x then b else Memory.read rest x

/-- The store with one byte written; writing the erased byte removes the entry. -/
def Memory.write : Memory → Nat → Byte → Memory
  | [], x, v => if v = erasedByte then [] else [(x, v)]
  | (a, b) :: rest, x, v =>
    if x < a then (if v = erasedByte then (a, b) :: rest else (x, v) :: (a, b) :: rest)
    else if x = a then (if v = erasedByte then rest else (x, v) :: rest)
    else (a, b) :: Memory.write rest x v

/-- The store with a run of bytes written from an address on. -/
def Memory.writeBytes : Memory → Nat → List Byte → Memory
  | m, _, [] => m
  | m, x, v :: vs => Memory.writeBytes (m.write x v) (x + 1) vs

/-- The `n` bytes from an address on. -/
def Memory.readBytes : Memory → Nat → Nat → List Byte
  | _, _, 0 => []
  | m, x, n + 1 => m.read x :: Memory.readBytes m (x + 1) n

/-- The canonical form. -/
abbrev Memory.wf (m : Memory) : Prop :=
  m.Pairwise (fun c d => c.1 < d.1) ∧ ∀ c ∈ m, c.2 ≠ erasedByte

end Sys2Proof.Machine
end

