-- ==== Sys2Proof/Machine/Profile.lean ====
section
/-! DEFINITION. The profile (R19, R41, R48, R67, R83, R120, R160, R181, R182, R196): its fields, the
built-in values, how an image is read into fields, the clamps of the loader, and the check code. -/

namespace Sys2Proof.Machine

/-- The riding modes (R48). -/
inductive Mode where
  | wet
  | road
  | tour
  | dynamic
deriving DecidableEq, Repr

/-- A riding mode's own number, 1..4 (R48, R193). -/
def Mode.number : Mode → Nat
  | .wet => 1
  | .road => 2
  | .tour => 3
  | .dynamic => 4

/-- The riding mode of a number; numbers below 1 are WET and above 4 DYNAMIC, as a clamp makes them (R26,
R49). -/
def Mode.ofNumber (n : Nat) : Mode :=
  if n ≤ 1 then .wet else if n = 2 then .road else if n = 3 then .tour else .dynamic

/-- The mode profile constants of one mode (R48, R196). The cut-line permission is held as the image
carries it: 0 not permitted, 1 permitted. -/
structure ModeProfile where
  gripScale : Nat
  slipScale : Nat
  cutFraction : Nat
  trackingRise : Nat
  recoveryRise : Nat
  holdSteps : Nat
  cutPermission : Nat
  driveFloor : Nat
  driveMax : Nat
  brakeRise : Nat
  brakeFall : Nat
  frontFloor : Nat
  rearFloor : Nat
deriving DecidableEq, Repr

/-- The brake maximum, 2000 in every mode and no field of the image (R48). -/
def brakeMaximum : Nat := 2000

/-- The cut line is permitted in this mode (R48, R106). -/
def ModeProfile.cutPermitted (p : ModeProfile) : Bool := p.cutPermission != 0

/-- The four mode profiles (R48). -/
structure ModeTable where
  wet : ModeProfile
  road : ModeProfile
  tour : ModeProfile
  dynamic : ModeProfile
deriving DecidableEq, Repr

/-- The profile of one mode. -/
def ModeTable.get (t : ModeTable) : Mode → ModeProfile
  | .wet => t.wet
  | .road => t.road
  | .tour => t.tour
  | .dynamic => t.dynamic

/-- The table with each profile changed in the same way. -/
def ModeTable.map (t : ModeTable) (f : ModeProfile → ModeProfile) : ModeTable :=
  ⟨f t.wet, f t.road, f t.tour, f t.dynamic⟩

/-- One row of the load table (R41): added mass in kg, centre-of-mass height in mm, rear static share in
parts of 1024. -/
structure LoadRow where
  added : Nat
  height : Nat
  rearShare : Nat
deriving DecidableEq, Repr

/-- One row of the grip map (R83), in parts of 1024. -/
structure GripRow where
  muBase : Nat
  slipTarget : Nat
deriving DecidableEq, Repr

/-- The binding of one Topic Store entry (R19). -/
structure Binding where
  topic : Nat
  sender : Nat
  deadline : Nat
  required : Bool
deriving DecidableEq, Repr

/-- The eight bindings, in the order of R19. -/
structure BindingTable where
  wheelSpeeds : Binding
  inertialRates : Binding
  inertialAccel : Binding
  inertialLean : Binding
  engineState : Binding
  brakeState : Binding
  suspensionState : Binding
  dashSelect : Binding
deriving DecidableEq, Repr

/-- The binding of one entry. -/
def BindingTable.get (t : BindingTable) : EntryName → Binding
  | .wheelSpeeds => t.wheelSpeeds
  | .inertialRates => t.inertialRates
  | .inertialAccel => t.inertialAccel
  | .inertialLean => t.inertialLean
  | .engineState => t.engineState
  | .brakeState => t.brakeState
  | .suspensionState => t.suspensionState
  | .dashSelect => t.dashSelect

/-- The table with each binding changed in the same way. -/
def BindingTable.map (t : BindingTable) (f : Binding → Binding) : BindingTable :=
  ⟨f t.wheelSpeeds, f t.inertialRates, f t.inertialAccel, f t.inertialLean, f t.engineState,
    f t.brakeState, f t.suspensionState, f t.dashSelect⟩

/-- The configuration that a profile holds (R196). -/
structure Profile where
  format : Nat
  ownStation : Nat
  serviceCode : Nat
  defaultMode : Nat
  assumedLean : Nat
  blindSlots : Nat
  cutPeriod : Nat
  baseMass : Nat
  wheelbase : Nat
  rollingRadius : Nat
  frontGain : Nat
  rearGain : Nat
  loadTable : List LoadRow
  gripMap : List GripRow
  modes : ModeTable
  bindings : BindingTable
deriving DecidableEq, Repr

/-- The load table row of a load setting 0..3 (R41). -/
def Profile.loadRow (p : Profile) (setting : Nat) : LoadRow := p.loadTable.getD setting ⟨0, 0, 0⟩

/-- The grip map row of a band 0..13 (R83). -/
def Profile.gripRow (p : Profile) (band : Nat) : GripRow := p.gripMap.getD band ⟨0, 0⟩

/-! ### The built-in values -/

/-- The built-in mode profiles (R48). -/
def builtInModes : ModeTable where
  wet := ⟨768, 768, 192, 40, 6, 30, 1, 40, 2400, 40, 10, 300, 150⟩
  road := ⟨922, 1024, 160, 50, 8, 24, 1, 40, 2400, 40, 10, 300, 150⟩
  tour := ⟨1024, 1024, 128, 60, 10, 20, 1, 40, 2400, 40, 10, 300, 150⟩
  dynamic := ⟨1024, 1280, 96, 80, 14, 12, 0, 40, 2400, 40, 10, 300, 150⟩

/-- The bindings of the built-in profile (R19). -/
def builtInBindings : BindingTable where
  wheelSpeeds := ⟨20, 2, 10, true⟩
  inertialRates := ⟨22, 4, 10, true⟩
  inertialAccel := ⟨23, 4, 20, false⟩
  inertialLean := ⟨24, 4, 20, false⟩
  engineState := ⟨30, 1, 20, true⟩
  brakeState := ⟨32, 2, 10, true⟩
  suspensionState := ⟨50, 5, 500, false⟩
  dashSelect := ⟨60, 6, 500, false⟩

/-- The built-in load table (R41). -/
def builtInLoadTable : List LoadRow :=
  [⟨90, 640, 532⟩, ⟨120, 670, 543⟩, ⟨170, 700, 553⟩, ⟨210, 720, 563⟩]

/-- The built-in grip map (R83). -/
def builtInGripMap : List GripRow :=
  [⟨1229, 133⟩, ⟨1229, 128⟩, ⟨1208, 123⟩, ⟨1188, 118⟩, ⟨1167, 113⟩, ⟨1147, 108⟩, ⟨1126, 102⟩,
    ⟨1126, 97⟩, ⟨1106, 92⟩, ⟨1085, 87⟩, ⟨1065, 82⟩, ⟨1044, 77⟩, ⟨1024, 72⟩, ⟨1004, 67⟩]

/-- The built-in profile (R196). -/
def builtInProfile : Profile where
  format := 1
  ownStation := 12
  serviceCode := 0
  defaultMode := 3
  assumedLean := 4500
  blindSlots := 3
  cutPeriod := 24
  baseMass := 390
  wheelbase := 1700
  rollingRadius := 330
  frontGain := 58
  rearGain := 36
  loadTable := builtInLoadTable
  gripMap := builtInGripMap
  modes := builtInModes
  bindings := builtInBindings

/-- The fallback profile: the built-in value of every field, with WET as its default mode (R181, R196). -/
def fallbackProfile : Profile := { builtInProfile with defaultMode := 1 }

/-! ### Reading an image -/

/-- The u8 at a place of an image. -/
def imageU8 (m : Memory) (at' : Nat) : Nat := (m.read at').toNat

/-- The u16 at a place of an image, most significant byte first. -/
def imageU16 (m : Memory) (at' : Nat) : Nat := 256 * imageU8 m at' + imageU8 m (at' + 1)

/-- The 20-byte mode profile at a place of an image (R196). -/
def readModeProfile (m : Memory) (a : Nat) : ModeProfile where
  gripScale := imageU16 m a
  slipScale := imageU16 m (a + 2)
  cutFraction := imageU16 m (a + 4)
  trackingRise := imageU8 m (a + 6)
  recoveryRise := imageU8 m (a + 7)
  holdSteps := imageU8 m (a + 8)
  cutPermission := imageU8 m (a + 9)
  driveFloor := imageU16 m (a + 10)
  driveMax := imageU16 m (a + 12)
  brakeRise := imageU8 m (a + 14)
  brakeFall := imageU8 m (a + 15)
  frontFloor := imageU16 m (a + 16)
  rearFloor := imageU16 m (a + 18)

/-- The 6-byte binding at a place of an image (R196). A required-for-join flag other than 0 is taken as 1,
which is no clamp (R182). -/
def readBinding (m : Memory) (a : Nat) : Binding where
  topic := imageU16 m a
  sender := imageU8 m (a + 2)
  deadline := imageU16 m (a + 3)
  required := imageU8 m (a + 5) != 0

/-- The fields of an image as it holds them, before any clamp (R182, R196). -/
def readProfile (m : Memory) : Profile where
  format := imageU8 m 0
  ownStation := imageU8 m 1
  serviceCode := imageU8 m 2
  defaultMode := imageU8 m 3
  assumedLean := imageU16 m 4
  blindSlots := imageU8 m 6
  cutPeriod := imageU8 m 7
  baseMass := imageU16 m 8
  wheelbase := imageU16 m 10
  rollingRadius := imageU16 m 12
  frontGain := imageU8 m 14
  rearGain := imageU8 m 15
  loadTable := (List.range 4).map fun i =>
    ⟨imageU16 m (16 + 6 * i), imageU16 m (18 + 6 * i), imageU16 m (20 + 6 * i)⟩
  gripMap := (List.range 14).map fun i => ⟨imageU16 m (40 + 4 * i), imageU16 m (42 + 4 * i)⟩
  modes := ⟨readModeProfile m 96, readModeProfile m 116, readModeProfile m 136, readModeProfile m 156⟩
  bindings :=
    ⟨readBinding m 176, readBinding m 182, readBinding m 188, readBinding m 194, readBinding m 200,
      readBinding m 206, readBinding m 212, readBinding m 218⟩

/-! ### The loader's clamps -/

/-- The range clamps of one mode profile (R48, R49, R196). -/
def ModeProfile.clampFields (p : ModeProfile) : ModeProfile where
  gripScale := clampNat 512 1024 p.gripScale
  slipScale := clampNat 512 1536 p.slipScale
  cutFraction := clampNat 32 512 p.cutFraction
  trackingRise := clampNat 1 200 p.trackingRise
  recoveryRise := clampNat 1 200 p.recoveryRise
  holdSteps := clampNat 1 100 p.holdSteps
  cutPermission := clampNat 0 1 p.cutPermission
  driveFloor := clampNat 0 500 p.driveFloor
  driveMax := clampNat 100 3000 p.driveMax
  brakeRise := clampNat 1 200 p.brakeRise
  brakeFall := clampNat 1 200 p.brakeFall
  frontFloor := clampNat 0 2000 p.frontFloor
  rearFloor := clampNat 0 2000 p.rearFloor

/-- The two constraints between fields of one mode profile, in their order (R49). -/
def ModeProfile.constrain (p : ModeProfile) : ModeProfile :=
  { p with
    recoveryRise := if p.trackingRise < p.recoveryRise then p.trackingRise else p.recoveryRise
    driveFloor := if p.driveMax < p.driveFloor then p.driveMax else p.driveFloor }

/-- The range clamps of one binding (R182). -/
def Binding.clampFields (b : Binding) : Binding :=
  { b with
    topic := clampNat 0 1023 b.topic
    sender := clampNat 0 31 b.sender
    deadline := clampNat 2 1000 b.deadline }

/-- The range clamps of one load table row (R41). -/
def LoadRow.clampFields (r : LoadRow) : LoadRow where
  added := clampNat 0 400 r.added
  height := clampNat 300 1200 r.height
  rearShare := clampNat 256 768 r.rearShare

/-- The range clamps of one grip map row (R83). -/
def GripRow.clampFields (r : GripRow) : GripRow where
  muBase := clampNat 205 1536 r.muBase
  slipTarget := clampNat 16 512 r.slipTarget

/-- The cut period within 16..48 ms and taken down to a multiple of 8 (R160). -/
def clampCutPeriod (p : Nat) : Nat := clampNat 16 48 p / 8 * 8

/-- All field clamps of an accepted image, and then the constraints of R49 (R182). -/
def Profile.clampFields (p : Profile) : Profile where
  format := p.format
  ownStation := clampNat 0 31 p.ownStation
  serviceCode := p.serviceCode
  defaultMode := clampNat 1 4 p.defaultMode
  assumedLean := clampNat 0 6500 p.assumedLean
  blindSlots := clampNat 0 8 p.blindSlots
  cutPeriod := clampCutPeriod p.cutPeriod
  baseMass := clampNat 150 500 p.baseMass
  wheelbase := clampNat 1200 2000 p.wheelbase
  rollingRadius := clampNat 250 400 p.rollingRadius
  frontGain := clampNat 10 200 p.frontGain
  rearGain := clampNat 10 200 p.rearGain
  loadTable := p.loadTable.map LoadRow.clampFields
  gripMap := p.gripMap.map GripRow.clampFields
  modes := p.modes.map fun q => q.clampFields.constrain
  bindings := p.bindings.map Binding.clampFields

end Sys2Proof.Machine
end

