-- ==== Sys2Proof/Machine/Wire.lean ====
section
/-! DEFINITION. The frame on the wire (R3, R192): its bit fields, its two checks, the stuff bits, the
acknowledgement slot, and the two directions between a frame and its levels on the medium. -/

namespace Sys2Proof.Machine

/-- A frame as its fields (R3): a whole frame whose checks passed, or one to be sent. -/
structure Frame where
  topic : Nat
  sender : Nat
  seq : Seq
  payload : List Byte
deriving DecidableEq, Repr

/-- The fields lie in their ranges (R3). -/
def Frame.wellFormed (f : Frame) : Bool :=
  decide (f.topic < 1024) && decide (f.sender < 32) && decide (f.payload.length ≤ 12)

/-- A number as `w` bits, most significant bit first (R192). -/
def toBits : Nat → Nat → List Level
  | 0, _ => []
  | w + 1, n => n.testBit w :: toBits w n

/-- The number that a run of bits holds, most significant bit first. -/
def ofBits (bits : List Level) : Nat :=
  bits.foldl (fun acc b => 2 * acc + b.toNat) 0

/-- The bits of a byte string, byte 0 first, each byte most significant bit first. -/
def bytesToBits (bytes : List Byte) : List Level :=
  bytes.flatMap (fun b => toBits 8 b.toNat)

/-- The first `n` bytes that a run of bits holds. -/
def bitsToBytes : Nat → List Level → List Byte
  | 0, _ => []
  | n + 1, bits => BitVec.ofNat 8 (ofBits (bits.take 8)) :: bitsToBytes n (bits.drop 8)

/-- One bit entering the register of a check with the polynomial `poly` (less its leading term). -/
def crcStep {w : Nat} (poly reg : BitVec w) (b : Level) : BitVec w :=
  if reg.msb != b then (reg <<< 1) ^^^ poly else reg <<< 1

/-- The header check: x^8+x^2+x+1, initial value 0, no final inversion (R3, R192). -/
def headerCheck (bits : List Level) : BitVec 8 :=
  bits.foldl (crcStep (0x07 : BitVec 8)) 0

/-- The payload check, which is also the profile check code: x^16+x^12+x^5+1, initial value all ones, no
reflection, no final inversion (R3, R181, R192). -/
def payloadCheck (bits : List Level) : BitVec 16 :=
  bits.foldl (crcStep (0x1021 : BitVec 16)) 0xFFFF

/-- The run of equal levels that the medium has just carried (R192, stuffing). -/
structure Run where
  level : Level
  count : Nat
deriving DecidableEq, Repr

/-- No bit of the stuffed part has passed yet. -/
def Run.start : Run := ⟨true, 0⟩

/-- The run after one more bit. -/
def Run.next (r : Run) (b : Level) : Run :=
  if b = r.level then ⟨b, r.count + 1⟩ else ⟨b, 1⟩

/-- A sender's bits with the stuff bits put in: after five bits of one level in a row, stuff bits counted,
one bit of the other level whenever further bits of the stuffed part follow (R192). -/
def stuffed : Run → List Level → List Level
  | _, [] => []
  | r, b :: bs =>
    if r.count = 5 then (!r.level) :: b :: stuffed ((Run.mk (!r.level) 1).next b) bs
    else b :: stuffed (r.next b) bs

/-- The next level that a receiver reads; past the end of what was heard the medium is idle, which is
recessive (R192). -/
def readLevel (bits : List Level) : Level := bits.headD true

/-- The first `n` bits of the stuffed part that a receiver keeps, with the run and the levels after them.
It removes the bit that follows each run of five, whatever its level (R192); the removed bit begins the
next run (log entry 5). -/
def takeBits : Nat → Run → List Level → List Level × Run × List Level
  | 0, r, bs => ([], r, bs)
  | n + 1, r, bs =>
    let r' := if r.count = 5 then ⟨readLevel bs, 1⟩ else r
    let bs' := if r.count = 5 then bs.tail else bs
    let b := readLevel bs'
    let (out, last, rest) := takeBits n (r'.next b) bs'.tail
    (b :: out, last, rest)

/-- The 23 bits that the header check covers: topic, sender, sequence and length (R192). -/
def headerBits (topic sender seq length : Nat) : List Level :=
  toBits 10 topic ++ toBits 5 sender ++ toBits 4 seq ++ toBits 4 length

/-- The bits of a frame from the start bit to the last check, without stuff bits. A frame of length 0 has
no payload check (R3). -/
def frameBits (f : Frame) : List Level :=
  let header := headerBits f.topic f.sender f.seq.toNat f.payload.length
  let payload := bytesToBits f.payload
  let check := if f.payload.length = 0 then [] else toBits 16 (payloadCheck payload).toNat
  false :: header ++ toBits 8 (headerCheck header).toNat ++ payload ++ check

/-- The levels that a sender drives from the start bit to the last check. -/
def encodeFrame (f : Frame) : List Level := stuffed Run.start (frameBits f)

/-- The levels of a whole sent frame as the sender drives it: both bits of the acknowledgement slot and the
end delimiter recessive (R9, R192). -/
def sentLevels (f : Frame) : List Level := encodeFrame f ++ List.replicate 9 true

/-- What a receiver makes of a heard frame (R4, R5). -/
inductive Heard where
  /-- The header check fails; the sender field is not judged. -/
  | badHeader
  /-- The header check passes and the length field holds 13, 14 or 15. -/
  | badLength (sender : Nat)
  /-- The header passes and the payload check fails. -/
  | badPayload (sender : Nat)
  /-- The header passes, and the payload check too where there is one. -/
  | good (f : Frame)
deriving DecidableEq, Repr

/-- A heard frame read from the levels on the medium, from its start bit on (R3, R4, R5, R192). -/
def parseFrame (bits : List Level) : Heard :=
  let (_, r0, rest0) := takeBits 1 Run.start bits
  let (header, r1, rest1) := takeBits 23 r0 rest0
  let (check, r2, rest2) := takeBits 8 r1 rest1
  let topic := ofBits (header.take 10)
  let sender := ofBits ((header.drop 10).take 5)
  let seq := ofBits ((header.drop 15).take 4)
  let length := ofBits (header.drop 19)
  if ofBits check ≠ (headerCheck header).toNat then .badHeader
  else if 12 < length then .badLength sender
  else
    let (payload, r3, rest3) := takeBits (8 * length) r2 rest2
    let (code, _, _) := takeBits 16 r3 rest3
    if length ≠ 0 ∧ ofBits code ≠ (payloadCheck payload).toNat then .badPayload sender
    else .good ⟨topic, sender, BitVec.ofNat 4 seq, bitsToBytes length payload⟩

/-- The sender field of a heard frame whose header check passed (R6). -/
def Heard.sender? : Heard → Option Nat
  | .badHeader => none
  | .badLength sender => some sender
  | .badPayload sender => some sender
  | .good f => some f.sender

/-- The priority key of a frame: topic number times 32 plus sender station (R3). -/
def priorityKey (topic sender : Nat) : Nat := topic * 32 + sender

/-- What the CG-40 drives into the acknowledgement slot of a frame it hears (R5, R192). -/
inductive SlotDrive where
  | nothing
  | accept
  | reject
deriving DecidableEq, Repr

/-- The two slot bits that a drive puts on an otherwise idle medium (R192). -/
def SlotDrive.levels : SlotDrive → Level × Level
  | .nothing => (true, true)
  | .accept => (false, true)
  | .reject => (false, false)

/-- The outcome of a frame offered for sending (R9, R10, R17). -/
inductive TxOutcome where
  | delivered
  | rejected
  | unheard
  | collided
  | superseded
  | dropped
deriving DecidableEq, Repr

/-- The outcome that the sender takes from the two bits of the acknowledgement slot (R9, R192): a dominant
second bit is REJECT whatever the first bit, a dominant first bit with a recessive second bit is ACCEPT. -/
def slotOutcome (first second : Level) : TxOutcome :=
  if second = false then .rejected else if first = false then .delivered else .unheard

end Sys2Proof.Machine
end

