-- ==== Sys2Proof/WellFormed.lean ====
section
/-! DEFINITION. The checks on a command's operands: what the outside can hand the part at all. -/

namespace Sys2Proof

/-- A burst moves 64 bytes (R180, R188). -/
def burstWellFormed (min : Option (List Byte)) : Bool :=
  match min with
  | none => true
  | some bytes => bytes.length == 64

/-- A frame on the wire opens with its dominant start bit (R192). -/
def frameWellFormed (bits : List Level) : Bool :=
  bits.head? == some false

/-- The operands of a command are ones the outside can present. A priority key is the topic number times
32 plus the sender station, so it lies below 32768 (R3). -/
def Instr.wellFormed (i : Instr) : Bool :=
  match i with
  | .powerOn => true
  | .profileLoadComplete min => burstWellFormed min
  | .frameHeard _ bits => frameWellFormed bits
  | .frameStart _ => true
  | .arbitrationLoss _ key => decide (key < 32768)
  | .collided _ => true
  | .ackSlotRead _ _ _ => true
  | .muteExpiry => true
  | .joinWaitExpiry => true
  | .deadlineExpiry _ => true
  | .staleExpiry _ => true
  | .atRestExpiry => true
  | .baseValidityExpiry => true
  | .reliefExpiry => true
  | .regulationStep => true
  | .brakeStep => true
  | .gripState => true
  | .echoDeadlineExpiry _ => true
  | .assertionEndExpiry => true
  | .cutPeriodExpiry => true
  | .ltStatus => true
  | .windowExpiry => true
  | .storePageBurstEnd _ => true
  | .storePageDone _ => true
  | .storePageTimeout => true
  | .storeReadbackComplete _ min => burstWellFormed min
  | .mediumIdle _ => true
  | .readBurstEnd _ min => burstWellFormed min

end Sys2Proof
end

