-- ==== Sys2Proof/Machine/State.lean ====
section
/-! DEFINITION. The state of the CG-40 as plain data, block by block, its values after power-on, the named
updates, and the reasons a step can stop.

Times: `State.now` counts 0.1 ms from the completion of the profile load (log entry 1). A timer is held as
the moment at which it runs out (`none` when it is stopped), an age as the moment it started from. -/

namespace Sys2Proof.Machine

/-! ### The Chassis Link Controller -/

/-- The five topics the CG-40 sends (R10). -/
inductive TxTopic where
  | driveLimit
  | brakeLimit
  | gripState
  | ltStatus
  | serviceReply
deriving DecidableEq, Repr

/-- The topic numbers of the frames the CG-40 sends (R10, R195). -/
def TxTopic.number : TxTopic → Nat
  | .driveLimit => 40
  | .brakeLimit => 41
  | .gripState => 300
  | .ltStatus => 600
  | .serviceReply => 951

/-- A frame offered for sending, with the sequence it took (R10, R13). -/
structure TxFrame where
  topic : TxTopic
  seq : Seq
  payload : List Byte
deriving DecidableEq, Repr

/-- The link is inactive before the profile load completes, and then in one of three states (R15..R18). -/
inductive LinkState where
  | inactive
  | silent
  | joined
  | muted
deriving DecidableEq, Repr

/-- The sequence counter of each topic the CG-40 sends (R13). -/
structure SeqCounters where
  driveLimit : Seq
  brakeLimit : Seq
  gripState : Seq
  ltStatus : Seq
  serviceReply : Seq
deriving DecidableEq, Repr

/-- The counter of one topic. -/
def SeqCounters.get (c : SeqCounters) : TxTopic → Seq
  | .driveLimit => c.driveLimit
  | .brakeLimit => c.brakeLimit
  | .gripState => c.gripState
  | .ltStatus => c.ltStatus
  | .serviceReply => c.serviceReply

/-- The counters with that of one topic at a new value. -/
def SeqCounters.set (c : SeqCounters) (t : TxTopic) (n : Seq) : SeqCounters :=
  match t with
  | .driveLimit => { c with driveLimit := n }
  | .brakeLimit => { c with brakeLimit := n }
  | .gripState => { c with gripState := n }
  | .ltStatus => { c with ltStatus := n }
  | .serviceReply => { c with serviceReply := n }

/-- The ten link counters (R18). -/
structure LinkCounters where
  headerErrors : Nat
  payloadErrors : Nat
  unbound : Nat
  delivered : Nat
  rejected : Nat
  unheard : Nat
  collided : Nat
  superseded : Nat
  dropped : Nat
  arbitrationLosses : Nat
deriving DecidableEq, Repr

/-- The Chassis Link Controller (R3..R18, R192). `awaitingIdle` holds while the part has given up following
a frame and waits for a run of 14 recessive bits; `slotDrive` is what it drove into the acknowledgement
slot of the last frame it heard. Its conditions PEERS_MISSING, LINK_MUTED and STATION_CLASH are held once,
as the active marks of the Fault Monitor (log entry 6). -/
structure Link where
  state : LinkState
  queue : List TxFrame
  wire : Option TxFrame
  seqs : SeqCounters
  failures : Nat
  joinWaitEnds : Option Nat
  muteEnds : Option Nat
  counters : LinkCounters
  awaitingIdle : Bool
  slotDrive : SlotDrive
deriving DecidableEq, Repr

/-- The link controller after power-on (R18). -/
def Link.initial : Link where
  state := .inactive
  queue := []
  wire := none
  seqs := ⟨0, 0, 0, 0, 0⟩
  failures := 0
  joinWaitEnds := none
  muteEnds := none
  counters := ⟨0, 0, 0, 0, 0, 0, 0, 0, 0, 0⟩
  awaitingIdle := false
  slotDrive := .nothing

/-! ### The Topic Store -/

/-- The freshness of an entry (R20, R32). -/
inductive Freshness where
  | never
  | fresh
  | late
  | stale
deriving DecidableEq, Repr

/-- One entry of the Topic Store (R20, R21). Its binding is that of the running profile. `fields` are the
decoded fields in the order of R19; a field past the end of the list is absent. `acceptedAt` is the moment
its age counts from; the age timer does not run while it is `none`. -/
structure Entry where
  freshness : Freshness
  lastSeq : Option Seq
  fields : List (Option Int)
  acceptedAt : Option Nat
  heard : Bool
  accepted : Nat
  duplicates : Nat
  missed : Nat
  intruders : Nat
  malformed : Nat
  clampedFields : Nat
  lateEpisodes : Nat
  staleEpisodes : Nat
deriving DecidableEq, Repr

/-- An entry after power-on (R20). -/
def Entry.initial : Entry where
  freshness := .never
  lastSeq := none
  fields := []
  acceptedAt := none
  heard := false
  accepted := 0
  duplicates := 0
  missed := 0
  intruders := 0
  malformed := 0
  clampedFields := 0
  lateEpisodes := 0
  staleEpisodes := 0

/-- The Topic Store: its eight entries (R19) and the two counts of the chassis-reset handling (R37). -/
structure Topics where
  wheelSpeeds : Entry
  inertialRates : Entry
  inertialAccel : Entry
  inertialLean : Entry
  engineState : Entry
  brakeState : Entry
  suspensionState : Entry
  dashSelect : Entry
  announcedResets : Nat
  ignoredResets : Nat
deriving DecidableEq, Repr

/-- The Topic Store after power-on (R20, R37). -/
def Topics.initial : Topics :=
  ⟨.initial, .initial, .initial, .initial, .initial, .initial, .initial, .initial, 0, 0⟩

/-- One entry of the store. -/
def Topics.get (t : Topics) : EntryName → Entry
  | .wheelSpeeds => t.wheelSpeeds
  | .inertialRates => t.inertialRates
  | .inertialAccel => t.inertialAccel
  | .inertialLean => t.inertialLean
  | .engineState => t.engineState
  | .brakeState => t.brakeState
  | .suspensionState => t.suspensionState
  | .dashSelect => t.dashSelect

/-- The store with one entry replaced. -/
def Topics.set (t : Topics) (e : EntryName) (x : Entry) : Topics :=
  match e with
  | .wheelSpeeds => { t with wheelSpeeds := x }
  | .inertialRates => { t with inertialRates := x }
  | .inertialAccel => { t with inertialAccel := x }
  | .inertialLean => { t with inertialLean := x }
  | .engineState => { t with engineState := x }
  | .brakeState => { t with brakeState := x }
  | .suspensionState => { t with suspensionState := x }
  | .dashSelect => { t with dashSelect := x }

/-- The entry names in the order of R19. -/
def EntryName.all : List EntryName :=
  [.wheelSpeeds, .inertialRates, .inertialAccel, .inertialLean, .engineState, .brakeState,
    .suspensionState, .dashSelect]

/-! ### The Load and Mode Selector -/

/-- Where a load record came from (R40, R42). -/
inductive LoadSource where
  | suspension
  | dash
  | default
deriving DecidableEq, Repr

/-- The load latch (R40). -/
inductive Latch where
  | opened
  | latched
deriving DecidableEq, Repr

/-- The load record but for its latch state (R40). -/
structure LoadRecord where
  mass : Nat
  height : Nat
  rearShare : Nat
  source : LoadSource
deriving DecidableEq, Repr

/-- A rider request: mode and intervention offset (R48). -/
structure ModeRequest where
  mode : Mode
  offset : Int
deriving DecidableEq, Repr

/-- The Load and Mode Selector (R40, R45, R46, R48, R54). The load record is absent until the profile load
completes. `notedStale` is the stale-episode count noted when the at-rest timer started. -/
structure Selector where
  load : Option LoadRecord
  latch : Latch
  atRestEnds : Option Nat
  notedStale : Nat
  mode : Mode
  offset : Int
  request : Option ModeRequest
  requests : Nat
  withdrawals : Nat
  adoptions : Nat
  ignoredRequests : Nat
deriving DecidableEq, Repr

/-- The selector after power-on (R40, R54). Before the load completes the mode record has no stated value
and nothing reads it: WET and 0 stand there (log entry 7). -/
def Selector.initial : Selector where
  load := none
  latch := .opened
  atRestEnds := none
  notedStale := 0
  mode := .wet
  offset := 0
  request := none
  requests := 0
  withdrawals := 0
  adoptions := 0
  ignoredRequests := 0

/-! ### The Lean Estimator -/

/-- The event that made a lean record (R55). -/
inductive LeanCause where
  | a
  | b
  | c
deriving DecidableEq, Repr

/-- The status of a lean record (R64..R67). -/
inductive LeanStatus where
  | full
  | pair
  | single
  | lost
deriving DecidableEq, Repr

/-- The lean record (R68). Leans are in centidegrees, the published lean in 0.1 degree. -/
structure LeanRecord where
  cause : LeanCause
  selected : Int
  status : LeanStatus
  kinematic : Option Int
  pod : Option Int
  integrated : Option Int
  spread : Option Int
  band : Nat
  published : Int
  timeMade : Stamp
deriving DecidableEq, Repr

/-- The integration base: the lean it holds and the moment it was made, from which its validity timer of
20.0 ms runs (R56). -/
structure LeanBase where
  lean : Int
  madeAt : Nat
deriving DecidableEq, Repr

/-- The Lean Estimator (R56, R68, R71, R76). LEAN_DISAGREE and LEAN_LOST are the active marks of the Fault
Monitor (log entry 6). -/
structure Estimator where
  latest : Option LeanRecord
  base : Option LeanBase
  disagreementRun : Nat
  fullRecords : Nat
  pairRecords : Nat
  singleRecords : Nat
  lostRecords : Nat
deriving DecidableEq, Repr

/-- The estimator after power-on (R73). -/
def Estimator.initial : Estimator := ⟨none, none, 0, 0, 0, 0, 0⟩

/-! ### The Grip Budget Unit -/

/-- The budget record (R81). -/
structure BudgetRecord where
  timeMade : Stamp
  leanTime : Stamp
  band : Nat
  leanMagnitude : Nat
  muEff : Nat
  lateralUse : Nat
  allowance : Nat
  saturated : Bool
  totalLoad : Nat
  frontLoad : Nat
  rearLoad : Nat
  driveGripLimit : Nat
  accelUsed : Option Int
  transfer : Nat
  transferUnknown : Bool
  frontBraking : Nat
  rearBraking : Nat
  frontLimit : Nat
  rearLimit : Nat
  rearLight : Bool
deriving DecidableEq, Repr

/-- One entry of the grip correction table (R93). -/
structure BandCorrection where
  corr : Int
  mark : Bool
deriving DecidableEq, Repr

/-- The Grip Budget Unit (R81, R93, R96, R102). -/
structure GripUnit where
  latest : Option BudgetRecord
  table : List BandCorrection
  reliefEnds : Option Nat
  budgets : Nat
  saturatedBudgets : Nat
  driveNotices : Nat
  brakeNotices : Nat
  floorLimited : Nat
  reliefs : Nat
deriving DecidableEq, Repr

/-- A correction table of 14 bands at 0 with every mark clear (R93). -/
def clearedTable : List BandCorrection := List.replicate 14 ⟨0, false⟩

/-- The Grip Budget Unit after power-on (R99). -/
def GripUnit.initial : GripUnit := ⟨none, clearedTable, none, 0, 0, 0, 0, 0, 0⟩

/-! ### The Drive Regulator -/

/-- The regulation states (R104). -/
inductive DriveState where
  | passive
  | tracking
  | cutting
  | holding
  | ramping
  | inhibited
deriving DecidableEq, Repr

/-- The output paths (R104, R106). -/
inductive DrivePath where
  | bus
  | cutLine
  | none
deriving DecidableEq, Repr

/-- The Drive Regulator (R104, R128). `lastState`, `lastWorking` and `lastHold` are the regulation state, T_work and
hold count as the last completed step left them, which the other blocks read; a chassis reset changes what the
regulator holds and no step's result, so the two can differ (R51, R103, R123, R126, R128). `lastState` is absent
before the first step. -/
structure Drive where
  state : DriveState
  path : DrivePath
  working : Option Nat
  holdCount : Nat
  lastSlip : Option Nat
  lastTarget : Option Nat
  lastBand : Option Nat
  lastDemand : Nat
  stepDue : Option Nat
  cutEntries : Nat
  reCuts : Nat
  inhibitedEntries : Nat
  frozenSteps : Nat
  cutLineSteps : Nat
  lastState : Option DriveState
  lastWorking : Option Nat
  lastHold : Nat
deriving DecidableEq, Repr

/-- The regulator after power-on (R104, R125). -/
def Drive.initial : Drive where
  state := .passive
  path := .none
  working := none
  holdCount := 0
  lastSlip := none
  lastTarget := none
  lastBand := none
  lastDemand := 0
  stepDue := none
  cutEntries := 0
  reCuts := 0
  inhibitedEntries := 0
  frozenSteps := 0
  cutLineSteps := 0
  lastState := none
  lastWorking := none
  lastHold := 0

/-! ### The Brake Supervisor -/

/-- The wheel states (R130). -/
inductive WheelState where
  | passive
  | advising
  | engaged
  | yielded
  | inhibited
deriving DecidableEq, Repr

/-- One wheel of the Brake Supervisor (R130, R147). `lastState` and `lastPublished` are the wheel state and P_pub as
the last completed step left them, `lastState` absent before the first step, and `lastMemory` is the ABS memory as the
last BRAKE_STATE arrival left it; a chassis reset leaves the three (R139, R145, R147). -/
structure Wheel where
  state : WheelState
  published : Option Nat
  absMemory : Bool
  lastComputed : Option Nat
  lastApplied : Option Nat
  engagements : Nat
  yields : Nat
  absOnsets : Nat
  breachNotices : Nat
  fallLimited : Nat
  inhibitedEntries : Nat
  lastState : Option WheelState
  lastPublished : Option Nat
  lastMemory : Bool
deriving DecidableEq, Repr

/-- A wheel after power-on (R130). -/
def Wheel.initial : Wheel := ⟨.passive, none, false, none, none, 0, 0, 0, 0, 0, 0, none, none, false⟩

/-- The Brake Supervisor (R129, R130). -/
structure Brake where
  front : Wheel
  rear : Wheel
  stepDue : Option Nat
deriving DecidableEq, Repr

/-- The supervisor after power-on (R144). -/
def Brake.initial : Brake := ⟨.initial, .initial, none⟩

/-! ### The Limit Publisher -/

/-- The value a limit frame carries; NO LIMIT is 65535 (R2, R148, R149). -/
inductive LimitValue where
  | drive (value : Nat)
  | brakes (front rear : Nat)
deriving DecidableEq, Repr

/-- One entry of an echo list; its deadline timer runs from its delivery (R152). -/
structure EchoEntry where
  seq : Seq
  value : LimitValue
  deliveredAt : Nat
deriving DecidableEq, Repr

/-- The publisher's judgement of a consumer (R158). -/
inductive ConsumerStatus where
  | following
  | lagging
  | silent
deriving DecidableEq, Repr

/-- What the publisher keeps for one consumer (R152, R157, R158, R171). -/
structure Track where
  echoes : List EchoEntry
  status : ConsumerStatus
  misses : Nat
  matches' : Nat
  absentRun : Nat
  withheld : Nat
  deliveries : Nat
  matchCount : Nat
  strays : Nat
  deadlineMisses : Nat
  overruns : Nat
  replaced : Nat
deriving DecidableEq, Repr

/-- A consumer after power-on and after a chassis reset (R168, R169). -/
def Track.initial : Track := ⟨[], .following, 0, 0, 0, 0, 0, 0, 0, 0, 0, 0⟩

/-- A limit frame whose outcome the publisher awaits (R150). -/
structure AwaitedLimit where
  topic : TxTopic
  seq : Seq
  value : LimitValue
deriving DecidableEq, Repr

/-- The Limit Publisher but for its cut pattern generator (R150, R151, R152). -/
structure Publisher where
  engine : Track
  brake : Track
  awaited : List AwaitedLimit
  gripStateDue : Option Nat
deriving DecidableEq, Repr

/-- The publisher after power-on (R168). -/
def Publisher.initial : Publisher := ⟨.initial, .initial, [], none⟩

/-- The track of one consumer. -/
def Publisher.track (p : Publisher) : Consumer → Track
  | .engine => p.engine
  | .brake => p.brake

/-- The publisher with the track of one consumer replaced. -/
def Publisher.setTrack (p : Publisher) (c : Consumer) (t : Track) : Publisher :=
  match c with
  | .engine => { p with engine := t }
  | .brake => { p with brake := t }

/-! ### The cut pattern generator -/

/-- The purpose of a running cut period (R160). -/
inductive CutPurpose where
  | regulation
  | test
deriving DecidableEq, Repr

/-- A running cut period: purpose, slots in force and the moment it started (R160). -/
structure CutRun where
  purpose : CutPurpose
  slots : Nat
  startedAt : Nat
deriving DecidableEq, Repr

/-- The cut pattern generator (R160, R171); it is IDLE while `run` is `none`. `asserted` is the CUT pin:
`true` means pulled low. -/
structure Generator where
  run : Option CutRun
  latestDemand : Nat
  lastPath : DrivePath
  assertionEnds : Option Nat
  asserted : Bool
  regulationPeriods : Nat
  testPeriods : Nat
  cancelledTests : Nat
deriving DecidableEq, Repr

/-- The generator after power-on (R160). -/
def Generator.initial : Generator := ⟨none, 0, .none, none, false, 0, 0, 0⟩

/-! ### The Fault Monitor -/

/-- The twelve faults, in the order of the table of R173. -/
inductive Fault12 where
  | profileFallback
  | profileClamped
  | peersMissing
  | topicContention
  | leanDisagree
  | leanLost
  | speedLost
  | engineSilent
  | brakeSilent
  | linkMuted
  | stationClash
  | storeFailed
deriving DecidableEq, Repr

/-- What the Monitor holds for one fault (R172). -/
structure FaultMark where
  active : Bool
  latched : Bool
  count : Nat
deriving DecidableEq, Repr

/-- The fault set (R172). -/
structure FaultSet where
  profileFallback : FaultMark
  profileClamped : FaultMark
  peersMissing : FaultMark
  topicContention : FaultMark
  leanDisagree : FaultMark
  leanLost : FaultMark
  speedLost : FaultMark
  engineSilent : FaultMark
  brakeSilent : FaultMark
  linkMuted : FaultMark
  stationClash : FaultMark
  storeFailed : FaultMark
deriving DecidableEq, Repr

/-- The marks of one fault. -/
def FaultSet.get (t : FaultSet) : Fault12 → FaultMark
  | .profileFallback => t.profileFallback
  | .profileClamped => t.profileClamped
  | .peersMissing => t.peersMissing
  | .topicContention => t.topicContention
  | .leanDisagree => t.leanDisagree
  | .leanLost => t.leanLost
  | .speedLost => t.speedLost
  | .engineSilent => t.engineSilent
  | .brakeSilent => t.brakeSilent
  | .linkMuted => t.linkMuted
  | .stationClash => t.stationClash
  | .storeFailed => t.storeFailed

/-- The set with the marks of one fault replaced. -/
def FaultSet.set (t : FaultSet) (f : Fault12) (m : FaultMark) : FaultSet :=
  match f with
  | .profileFallback => { t with profileFallback := m }
  | .profileClamped => { t with profileClamped := m }
  | .peersMissing => { t with peersMissing := m }
  | .topicContention => { t with topicContention := m }
  | .leanDisagree => { t with leanDisagree := m }
  | .leanLost => { t with leanLost := m }
  | .speedLost => { t with speedLost := m }
  | .engineSilent => { t with engineSilent := m }
  | .brakeSilent => { t with brakeSilent := m }
  | .linkMuted => { t with linkMuted := m }
  | .stationClash => { t with stationClash := m }
  | .storeFailed => { t with storeFailed := m }

/-- The faults in the order of the table of R173, which is their bit order in a fault set (R193). -/
def Fault12.all : List Fault12 :=
  [.profileFallback, .profileClamped, .peersMissing, .topicContention, .leanDisagree, .leanLost,
    .speedLost, .engineSilent, .brakeSilent, .linkMuted, .stationClash, .storeFailed]

/-- The rider lamp (R176). -/
inductive Lamp where
  | off
  | steady
  | flashing
deriving DecidableEq, Repr

/-- The Fault Monitor: fault set, lamp, channel copy and counts (R172, R175, R176, R179). -/
structure Monitor where
  faults : FaultSet
  lamp : Lamp
  driveState : DriveState
  drivePath : DrivePath
  frontWheel : WheelState
  rearWheel : WheelState
  regulationCut : Bool
  ltStatusDue : Option Nat
  lampChanges : Nat
  clearRequests : Nat
  ltStatusOffers : Nat
deriving DecidableEq, Repr

/-- A fault after power-on: no mark, no occurrence (R172). -/
def FaultMark.clear : FaultMark := ⟨false, false, 0⟩

/-- The Monitor after power-on (R172, R175, R176, R179). -/
def Monitor.initial : Monitor where
  faults := ⟨.clear, .clear, .clear, .clear, .clear, .clear, .clear, .clear, .clear, .clear, .clear, .clear⟩
  lamp := .off
  driveState := .passive
  drivePath := .none
  frontWheel := .passive
  rearWheel := .passive
  regulationCut := false
  ltStatusDue := none
  lampChanges := 0
  clearRequests := 0
  ltStatusOffers := 0

/-! ### The Profile Loader and Service Responder -/

/-- Where the part stands in its power cycle: reading the profile image, with the number of bursts that have
ended, or running (R180, R183). -/
inductive Phase where
  | loading (bursts : Nat)
  | running
deriving DecidableEq, Repr

/-- The Profile Loader: the phase, the bytes read so far in a load or a read-back, the running profile and
whether it is the fallback profile (R180, R183, R188, R191). `burstEnded` is the moment at which the last read
burst of the load or read-back in progress ended, absent during its first burst: MSEL is released between bursts
(R180; log entry 2). -/
structure Loader where
  phase : Phase
  readImage : Memory
  profile : Profile
  fallback : Bool
  burstEnded : Option Nat
deriving DecidableEq, Repr

/-- The loader at the start of the power-on sequence: the first burst runs (R180). No profile runs before the
load completes; the fallback profile stands in its place and nothing reads it (log entry 7). -/
def Loader.initial : Loader := ⟨.loading 0, [], fallbackProfile, true, none⟩

/-- The stage of a profile store (R188). The check code and the compare take no time of their own, so no
store rests in them. `pageBurst p` sends page `p`; `pageWait p t` waits for its done report, the burst
having ended at `t`; `readBack n` reads back, `n` bursts having ended. -/
inductive StoreStage where
  | pageBurst (page : Nat)
  | pageWait (page burstEnd : Nat)
  | readBack (bursts : Nat)
deriving DecidableEq, Repr

/-- A profile store in progress: its stage, and the tag, record and offset of its request, which its reply
carries (R185, R188). -/
structure Store where
  stage : StoreStage
  tag : Byte
  record : Byte
  offset : Byte
deriving DecidableEq, Repr

/-- The Service Responder (R184, R187, R188, R191). The commissioning window is open while `windowEnds`
holds the moment its timer runs out. -/
structure Responder where
  windowEnds : Option Nat
  store : Option Store
  pendingImage : Memory
  ignoredRequests : Nat
  replies : Nat
  stores : Nat
  failedStores : Nat
deriving DecidableEq, Repr

/-- The responder after power-on (R191). -/
def Responder.initial : Responder := ⟨none, none, [], 0, 0, 0, 0⟩

/-! ### The whole part -/

/-- The state of the CG-40. `now` (log entry 1), `pending` and `draws` (log entry 3) are the model's own;
`memory` is the serial configuration memory (log entry 2). -/
structure State where
  /-- The time in 0.1 ms from the completion of the profile load. -/
  now : Nat
  /-- The commands that wait, first in, first out. -/
  pending : List Instr
  /-- How many free values have been drawn. -/
  draws : Nat
  /-- The serial configuration memory, addresses 0..255. -/
  memory : Memory
  loader : Loader
  link : Link
  topics : Topics
  selector : Selector
  estimator : Estimator
  grip : GripUnit
  drive : Drive
  brake : Brake
  publisher : Publisher
  generator : Generator
  monitor : Monitor
  responder : Responder
deriving DecidableEq, Repr

/-- The state at the start of a power-on sequence (R180): every block at its power-on values, the cut line
released, the link inactive, the first read burst running. What the serial memory holds, the commands that
wait and the draws are carried over. -/
def State.poweredOn (memory : Memory) (pending : List Instr) (draws : Nat) : State where
  now := 0
  pending := pending
  draws := draws
  memory := memory
  loader := .initial
  link := .initial
  topics := .initial
  selector := .initial
  estimator := .initial
  grip := .initial
  drive := .initial
  brake := .initial
  publisher := .initial
  generator := .initial
  monitor := .initial
  responder := .initial

/-- The machine right after reset: the start of a power-on sequence, an erased serial memory, no command
waiting (R180; log entry 4 for the memory). -/
def State.reset : State := State.poweredOn [] [] 0

/-! ### Named updates -/

/-- The state with the time replaced. -/
def State.setNow (s : State) (x : Nat) : State := { s with now := x }

/-- The state with the number of draws replaced. -/
def State.setDraws (s : State) (x : Nat) : State := { s with draws := x }

/-- The state with the serial memory replaced. -/
def State.setMemory (s : State) (x : Memory) : State := { s with memory := x }

/-- The state with the Profile Loader replaced. -/
def State.setLoader (s : State) (x : Loader) : State := { s with loader := x }

/-- The state with the link controller replaced. -/
def State.setLink (s : State) (x : Link) : State := { s with link := x }

/-- The state with the Topic Store replaced. -/
def State.setTopics (s : State) (x : Topics) : State := { s with topics := x }

/-- The state with the Load and Mode Selector replaced. -/
def State.setSelector (s : State) (x : Selector) : State := { s with selector := x }

/-- The state with the Lean Estimator replaced. -/
def State.setEstimator (s : State) (x : Estimator) : State := { s with estimator := x }

/-- The state with the Grip Budget Unit replaced. -/
def State.setGrip (s : State) (x : GripUnit) : State := { s with grip := x }

/-- The state with the Drive Regulator replaced. -/
def State.setDrive (s : State) (x : Drive) : State := { s with drive := x }

/-- The state with the Brake Supervisor replaced. -/
def State.setBrake (s : State) (x : Brake) : State := { s with brake := x }

/-- The state with the Limit Publisher replaced. -/
def State.setPublisher (s : State) (x : Publisher) : State := { s with publisher := x }

/-- The state with the cut pattern generator replaced. -/
def State.setGenerator (s : State) (x : Generator) : State := { s with generator := x }

/-- The state with the Fault Monitor replaced. -/
def State.setMonitor (s : State) (x : Monitor) : State := { s with monitor := x }

/-- The state with the Service Responder replaced. -/
def State.setResponder (s : State) (x : Responder) : State := { s with responder := x }

/-- The state with the waiting commands replaced. -/
def State.setPending (s : State) (x : List Instr) : State := { s with pending := x }

/-! ### The reasons a step can stop -/

/-- The faults of the machine. There are none: no rule of the manual stops the CG-40 for good, and every
event that its state rules out leaves it as it is (log entry 8). -/
inductive Fault where
deriving DecidableEq, Repr

/-- The refusals of the model. -/
inductive Refusal where
  /-- Raised by `exec` for a command that has no meaning in the model yet; safe, since it answers no state.
  No arm of this model raises it. -/
  | notModelled (mnemonic : String)
deriving DecidableEq, Repr

end Sys2Proof.Machine
end

