-- ==== Sys2Proof/Machine/Operands.lean ====
section
/-! DEFINITION. The forms of fields (R193), the received payloads and their decoding with its clamps and
absent codes (R19, R26..R28, R194), and the fields as they travel (R193). -/

namespace Sys2Proof.Machine

/-! ### Forms -/

/-- A number as a u8 (R193). -/
def u8 (n : Nat) : List Byte := [BitVec.ofNat 8 n]

/-- A number as a u16, most significant byte first (R193). -/
def u16 (n : Nat) : List Byte := [BitVec.ofNat 8 (n / 256), BitVec.ofNat 8 n]

/-- A signed number as an i16 in two's complement (R193). -/
def i16 (x : Int) : List Byte := u16 (x % 65536).toNat

/-- A time as a u32 (R193). -/
def u32 (t : Stamp) : List Byte := u16 (t.toNat / 65536) ++ u16 (t.toNat % 65536)

/-- A mark or flag: 0 clear, 1 set (R193). -/
def flag (b : Bool) : List Byte := u8 b.toNat

/-- A u8 that can be absent; its absent code is 0xFF (R2, R193). -/
def u8Or (o : Option Nat) : List Byte := u8 (o.getD 0xFF)

/-- A u16 that can be absent; its absent code is 0xFFFF (R2, R193). -/
def u16Or (o : Option Nat) : List Byte := u16 (o.getD 0xFFFF)

/-- An i16 that can be absent; its absent code is 0x8000 (R2, R193). -/
def i16Or (o : Option Int) : List Byte := i16 (o.getD (-32768))

/-- A u32 that can be absent; its absent code is 0xFFFFFFFF (R193). -/
def u32Or (o : Option Stamp) : List Byte := u32 (o.getD 0xFFFFFFFF)

/-- The u8 at a place of a payload. -/
def payloadU8 (p : List Byte) (i : Nat) : Nat := (p.getD i 0).toNat

/-- The u16 at a place of a payload. -/
def payloadU16 (p : List Byte) (i : Nat) : Nat := 256 * payloadU8 p i + payloadU8 p (i + 1)

/-- The i16 at a place of a payload. -/
def payloadI16 (p : List Byte) (i : Nat) : Int := (BitVec.ofNat 16 (payloadU16 p i)).toInt

/-! ### The decoded fields of the entries -/

/-- How a received field is carried, with its range (R26, R28). -/
inductive FieldForm where
  /-- An unsigned 16-bit field of range 0..hi. -/
  | u16 (hi : Nat)
  /-- A signed 16-bit field of range -bound..bound. -/
  | i16 (bound : Nat)
  /-- An 8-bit field of range lo..hi. -/
  | u8 (lo hi : Nat)
  /-- The echo sequence: 0..15, any larger value absent. -/
  | echo
  /-- The ABS flag byte: two fields, front and rear. -/
  | absFlags
  /-- The intervention offset, carried as offset plus 2. -/
  | offset
deriving DecidableEq, Repr

/-- The bytes that a field takes in a payload. -/
def FieldForm.width : FieldForm → Nat
  | .u16 _ => 2
  | .i16 _ => 2
  | .u8 _ _ => 1
  | .echo => 1
  | .absFlags => 1
  | .offset => 1

/-- The decoded fields that a form gives (two for the ABS flag byte, else one). -/
def FieldForm.arity : FieldForm → Nat
  | .absFlags => 2
  | _ => 1

/-- A value within its range, with a count of 1 when it was clamped (R26). -/
def clampedField (lo hi x : Int) : List (Option Int) × Nat :=
  ([some (clampInt lo hi x)], if x < lo ∨ hi < x then 1 else 0)

/-- One field decoded from a payload at a place: the decoded fields it gives and how many clamps it counts
(R26, R27, R28). -/
def FieldForm.decode (form : FieldForm) (p : List Byte) (i : Nat) : List (Option Int) × Nat :=
  match form with
  | .u16 hi =>
    let v := payloadU16 p i
    if v = 0xFFFF then ([none], 0) else clampedField 0 hi v
  | .i16 bound =>
    let v := payloadI16 p i
    if v = -32768 then ([none], 0) else clampedField (-(bound : Int)) bound v
  | .u8 lo hi =>
    let v := payloadU8 p i
    if v = 0xFF then ([none], 0) else clampedField lo hi v
  | .echo =>
    let v := payloadU8 p i
    if 15 < v then ([none], 0) else ([some v], 0)
  | .absFlags =>
    let v := payloadU8 p i
    if v = 0xFF then ([none, none], 0)
    else ([some ((v % 2 : Nat) : Int), some ((v / 2 % 2 : Nat) : Int)], if 4 ≤ v then 1 else 0)
  | .offset =>
    let v := payloadU8 p i
    if v = 0xFF then ([none], 0) else clampedField (-2) 2 ((v : Int) - 2)

/-- The fields of each entry in the order of its payload (R26, R194). -/
def fieldForms : EntryName → List FieldForm
  | .wheelSpeeds => [.u16 9000, .u16 9000]
  | .inertialRates => [.i16 1500, .i16 1500]
  | .inertialAccel => [.i16 2000]
  | .inertialLean => [.i16 650, .u8 0 100]
  | .engineState => [.u16 3000, .u16 3000, .u8 0 6, .echo]
  | .brakeState => [.u16 2000, .u16 2000, .u16 2000, .u16 2000, .absFlags, .echo]
  | .suspensionState => [.u16 300]
  | .dashSelect => [.u8 1 4, .u8 0 3, .offset]

/-- The fixed payload length of each entry (R19, R194). -/
def payloadLength : EntryName → Nat
  | .wheelSpeeds => 4
  | .inertialRates => 4
  | .inertialAccel => 2
  | .inertialLean => 3
  | .engineState => 6
  | .brakeState => 10
  | .suspensionState => 2
  | .dashSelect => 3

/-- The fields of a payload from a place on, decoded in order, with the number of clamped fields. -/
def decodeFields : List FieldForm → List Byte → Nat → List (Option Int) × Nat
  | [], _, _ => ([], 0)
  | form :: rest, p, i =>
    let (here, n) := form.decode p i
    let (more, k) := decodeFields rest p (i + form.width)
    (here ++ more, n + k)

/-- A payload decoded into the fields of an entry, with the number of clamped fields (R25, R26). -/
def decodePayload (e : EntryName) (p : List Byte) : List (Option Int) × Nat :=
  decodeFields (fieldForms e) p 0

/-- One decoded field, or the two of the ABS flag byte, as it travels in its payload (R193). -/
def FieldForm.encode (form : FieldForm) (fields : List (Option Int)) : List Byte :=
  let v := fields.getD 0 none
  match form with
  | .u16 _ => Machine.u16Or (v.map Int.toNat)
  | .i16 _ => Machine.i16Or v
  | .u8 _ _ => Machine.u8Or (v.map Int.toNat)
  | .echo => Machine.u8Or (v.map Int.toNat)
  | .absFlags =>
    match v, fields.getD 1 none with
    | some front, some rear => Machine.u8 (front + 2 * rear).toNat
    | _, _ => Machine.u8 0xFF
  | .offset => Machine.u8Or (v.map fun x => (x + 2).toNat)

/-- The decoded fields of an entry as they travel (R193). -/
def encodeFields : List FieldForm → List (Option Int) → List Byte
  | [], _ => []
  | form :: rest, fields => form.encode fields ++ encodeFields rest (fields.drop form.arity)

/-! ### What a reader finds in an entry -/

/-- The entry's values may be used: it is FRESH or LATE (R32). -/
def Entry.usable (x : Entry) : Bool := x.freshness == .fresh || x.freshness == .late

/-- A field of an entry as a reader finds it: absent when the entry is NEVER or STALE (R32). -/
def Entry.reading (x : Entry) (i : Nat) : Option Int :=
  if x.usable then x.fields.getD i none else none

/-- An unsigned field of an entry as a reader finds it. -/
def Entry.readingNat (x : Entry) (i : Nat) : Option Nat := (x.reading i).map Int.toNat

/-- Front speed, 0.01 m/s. -/
def Topics.frontSpeed (t : Topics) : Option Nat := t.wheelSpeeds.readingNat 0

/-- Rear speed, 0.01 m/s. -/
def Topics.rearSpeed (t : Topics) : Option Nat := t.wheelSpeeds.readingNat 1

/-- Yaw rate, 0.1 degrees per second. -/
def Topics.yawRate (t : Topics) : Option Int := t.inertialRates.reading 0

/-- Roll rate, 0.1 degrees per second. -/
def Topics.rollRate (t : Topics) : Option Int := t.inertialRates.reading 1

/-- Longitudinal acceleration, 0.01 m/s². -/
def Topics.longAccel (t : Topics) : Option Int := t.inertialAccel.reading 0

/-- Roll angle of the inertial pod, 0.1 degrees. -/
def Topics.podAngle (t : Topics) : Option Int := t.inertialLean.reading 0

/-- Confidence of the inertial pod, percent. -/
def Topics.podConfidence (t : Topics) : Option Nat := t.inertialLean.readingNat 1

/-- Rider demand, N·m. -/
def Topics.riderDemand (t : Topics) : Option Nat := t.engineState.readingNat 0

/-- Delivered torque, N·m. -/
def Topics.deliveredTorque (t : Topics) : Option Nat := t.engineState.readingNat 1

/-- Gear, 0 neutral. -/
def Topics.gear (t : Topics) : Option Nat := t.engineState.readingNat 2

/-- The echo of the engine controller. -/
def Topics.engineEcho (t : Topics) : Option Nat := t.engineState.readingNat 3

/-- Demand pressure of the front wheel, 0.1 bar. -/
def Topics.frontDemand (t : Topics) : Option Nat := t.brakeState.readingNat 0

/-- Demand pressure of the rear wheel, 0.1 bar. -/
def Topics.rearDemand (t : Topics) : Option Nat := t.brakeState.readingNat 1

/-- Applied pressure of the front wheel, 0.1 bar. -/
def Topics.frontApplied (t : Topics) : Option Nat := t.brakeState.readingNat 2

/-- Applied pressure of the rear wheel, 0.1 bar. -/
def Topics.rearApplied (t : Topics) : Option Nat := t.brakeState.readingNat 3

/-- The ABS-active flag of the front wheel. -/
def Topics.frontAbs (t : Topics) : Option Bool := (t.brakeState.reading 4).map (· != 0)

/-- The ABS-active flag of the rear wheel. -/
def Topics.rearAbs (t : Topics) : Option Bool := (t.brakeState.reading 5).map (· != 0)

/-- The echo of the brake modulator. -/
def Topics.brakeEcho (t : Topics) : Option Nat := t.brakeState.readingNat 6

/-- The echo of a consumer in its own state entry (R154). -/
def Topics.echo (t : Topics) : Consumer → Option Nat
  | .engine => t.engineEcho
  | .brake => t.brakeEcho

/-- The added-mass estimate, kg. -/
def Topics.addedMass (t : Topics) : Option Nat := t.suspensionState.readingNat 0

/-- The riding mode number that the dash asks for. -/
def Topics.dashMode (t : Topics) : Option Nat := t.dashSelect.readingNat 0

/-- The load setting of the dash. -/
def Topics.loadSetting (t : Topics) : Option Nat := t.dashSelect.readingNat 1

/-- The intervention offset that the dash asks for. -/
def Topics.dashOffset (t : Topics) : Option Int := t.dashSelect.reading 2

end Sys2Proof.Machine
end

