-- ==== Sys2Proof/Machine/Flags.lean ====
section
/-! DEFINITION. The flags of the part as the Fault Monitor forms them: the marks of a fault, the fault set
as a word, the rider lamp and the degradation level (R172..R177, R193, R195). -/

namespace Sys2Proof.Machine

/-- The marks of a fault after a condition report (R172). -/
def FaultMark.reported (m : FaultMark) (becomesActive : Bool) : FaultMark :=
  if becomesActive then (if m.active then m else ⟨true, true, bump255 m.count⟩)
  else { m with active := false }

/-- The marks of a fault after a CLEAR_FAULTS request (R174). -/
def FaultMark.cleared (m : FaultMark) : FaultMark :=
  if m.active then m else { m with latched := false }

/-- The fault set after a CLEAR_FAULTS request (R174). -/
def FaultSet.cleared (t : FaultSet) : FaultSet :=
  Fault12.all.foldl (fun acc f => acc.set f (acc.get f).cleared) t

/-- Some fault has its latched mark set (R176). -/
def FaultSet.anyLatched (t : FaultSet) : Bool := Fault12.all.any fun f => (t.get f).latched

/-- The latched marks as a fault set word: bit 0 PROFILE_FALLBACK, bit 11 STORE_FAILED (R193). -/
def FaultSet.latchedWord (t : FaultSet) : Nat :=
  Fault12.all.foldr (fun f acc => (t.get f).latched.toNat + 2 * acc) 0

/-- The rider lamp by the first line of the table that applies (R176). -/
def Monitor.lampNow (m : Monitor) : Lamp :=
  if m.driveState = .cutting ∨ m.driveState = .holding ∨ m.regulationCut then .flashing
  else if m.faults.anyLatched ∨ m.driveState = .inhibited ∨ m.frontWheel = .inhibited ∨
      m.rearWheel = .inhibited then .steady
  else .off

/-- The degradation level (R177). -/
inductive Level3 where
  | normal
  | reduced
  | inhibited
deriving DecidableEq, Repr

/-- The latest lean record counts towards REDUCED: its status is SINGLE or LOST, or there is none (R70,
R177). -/
def leanDegraded : Option LeanRecord → Bool
  | none => true
  | some r => r.status == .single || r.status == .lost

/-- The degradation level by the first line of the table that applies (R177). -/
def Monitor.level (m : Monitor) (lean : Option LeanRecord) : Level3 :=
  if m.driveState = .inhibited ∧ m.frontWheel = .inhibited ∧ m.rearWheel = .inhibited then .inhibited
  else if m.driveState = .inhibited ∨ m.frontWheel = .inhibited ∨ m.rearWheel = .inhibited ∨
      m.drivePath = .cutLine ∨ leanDegraded lean then .reduced
  else .normal

/-! ### The numbers of named states (R193, R195) -/

/-- OFF 0, STEADY 1, FLASHING 2 (R195). -/
def Lamp.code : Lamp → Nat
  | .off => 0
  | .steady => 1
  | .flashing => 2

/-- NORMAL 0, REDUCED 1, INHIBITED 2 (R195). -/
def Level3.code : Level3 → Nat
  | .normal => 0
  | .reduced => 1
  | .inhibited => 2

/-- BUS 0, CUT_LINE 1, NONE 2 (R195). -/
def DrivePath.code : DrivePath → Nat
  | .bus => 0
  | .cutLine => 1
  | .none => 2

/-- NEVER 0, FRESH 1, LATE 2, STALE 3 (R193). -/
def Freshness.code : Freshness → Nat
  | .never => 0
  | .fresh => 1
  | .late => 2
  | .stale => 3

/-- PASSIVE 0 to INHIBITED 5 (R193). -/
def DriveState.code : DriveState → Nat
  | .passive => 0
  | .tracking => 1
  | .cutting => 2
  | .holding => 3
  | .ramping => 4
  | .inhibited => 5

/-- PASSIVE 0 to INHIBITED 4, in the order of R130. -/
def WheelState.code : WheelState → Nat
  | .passive => 0
  | .advising => 1
  | .engaged => 2
  | .yielded => 3
  | .inhibited => 4

/-- A 0, B 1, C 2, in the order of R68. -/
def LeanCause.code : LeanCause → Nat
  | .a => 0
  | .b => 1
  | .c => 2

/-- FULL 0, PAIR 1, SINGLE 2, LOST 3 (R195). -/
def LeanStatus.code : LeanStatus → Nat
  | .full => 0
  | .pair => 1
  | .single => 2
  | .lost => 3

/-- SUSPENSION 0, DASH 1, DEFAULT 2, in the order of R40. -/
def LoadSource.code : LoadSource → Nat
  | .suspension => 0
  | .dash => 1
  | .default => 2

/-- OPEN 0, LATCHED 1, in the order of R40. -/
def Latch.code : Latch → Nat
  | .opened => 0
  | .latched => 1

/-- FOLLOWING 0, LAGGING 1, SILENT 2, in the order of R158. -/
def ConsumerStatus.code : ConsumerStatus → Nat
  | .following => 0
  | .lagging => 1
  | .silent => 2

/-- REGULATION 0, TEST 1, in the order of R160. -/
def CutPurpose.code : CutPurpose → Nat
  | .regulation => 0
  | .test => 1

/-- The regulation cut of the channel copy: active 0, ended 1, in the order of R175 (log entry 10). -/
def regulationCutCode (active : Bool) : Nat := if active then 0 else 1

end Sys2Proof.Machine
end

