-- ==== Sys2Proof/Machine/Time.lean ====
section
/-! DEFINITION. Time and the timers (00_scope.md, Time and order; log entry 1). -/

namespace Sys2Proof.Machine

/-- The join wait, 500 ms (R15). -/
def joinWait : Nat := 5000
/-- The mute period, 200 ms (R17). -/
def mutePeriod : Nat := 2000
/-- The at-rest timer, 2000 ms (R45). -/
def atRestTime : Nat := 20000
/-- The validity of the integration base, 20.0 ms (R56). -/
def baseValidity : Nat := 200
/-- The relief period, 1000 ms (R96). -/
def reliefPeriod : Nat := 10000
/-- The regulation and brake step period, 5 ms (R103, R129). -/
def stepPeriod : Nat := 50
/-- The GRIP_STATE period, 20 ms (R151). -/
def gripStatePeriod : Nat := 200
/-- The deadline of an echo, 30 ms (R152). -/
def echoDeadline : Nat := 300
/-- The LT_STATUS period, 100 ms (R178). -/
def ltStatusPeriod : Nat := 1000
/-- The commissioning window, 10,000 ms (R184). -/
def windowTime : Nat := 100000
/-- The wait for a page-done report, 15 ms (R188). -/
def pageWait : Nat := 150

/-- The state after `dt` tenths of a millisecond in which nothing happens. -/
def State.elapse (s : State) (dt : Nat) : State := s.setNow (s.now + dt)

/-- The state at the moment `t` at which a timer runs out; a timer that is overdue is taken now. -/
def State.until (s : State) (t : Nat) : State := s.setNow (max s.now t)

/-- The time on the count of records: 0.1 ms from the completion of the load, modulo 2^32 (R68, R81). -/
def State.stamp (s : State) : Stamp := BitVec.ofNat 32 s.now

/-- What remains of a timer, in 0.1 ms; absent when it is stopped (R193). -/
def State.remaining (s : State) (timer : Option Nat) : Option Nat := timer.map (· - s.now)

/-- What remains of a timer, in whole ms rounded down (log entry 11); absent when it is stopped. -/
def State.remainingMs (s : State) (timer : Option Nat) : Option Nat := timer.map fun t => (t - s.now) / 10

/-- The age of an entry in ms: 0 while its timer does not run, and stopped at 65535 (R20, R29). -/
def State.entryAge (s : State) (x : Entry) : Nat :=
  match x.acceptedAt with
  | none => 0
  | some t => min 65535 ((s.now - t) / 10)

end Sys2Proof.Machine
end

