-- ==== Sys2Proof/Machine/Ops.lean ====
section
/-! DEFINITION. The operations that the blocks share: the transmit queue with its offers and outcomes
(R10..R13, R17), the condition and channel reports to the Fault Monitor with the lamp (R172, R175, R176,
R178), and the readings of the running profile. -/

namespace Sys2Proof.Machine

/-! ### The transmit queue -/

/-- The report of an outcome to the block that offered the frame (R9, R10, R11, R17). An offer dropped in
MUTED took no sequence. -/
structure TxReport where
  topic : TxTopic
  seq : Option Seq
  outcome : TxOutcome
deriving DecidableEq, Repr

/-- The queue with a frame inserted at its place in ascending topic order (R10). -/
def insertFrame (f : TxFrame) : List TxFrame → List TxFrame
  | [] => [f]
  | g :: rest => if f.topic.number < g.topic.number then f :: g :: rest else g :: insertFrame f rest

/-- The waiting frame of a topic (R10, R12). -/
def waitingOf (q : List TxFrame) (t : TxTopic) : Option TxFrame := q.find? fun (g : TxFrame) => g.topic == t

/-- The link with one more dropped outcome counted (R18). -/
def Link.countDropped (l : Link) : Link :=
  { l with counters := { l.counters with dropped := bump l.counters.dropped } }

/-- The link with one more superseded outcome counted (R18). -/
def Link.countSuperseded (l : Link) : Link :=
  { l with counters := { l.counters with superseded := bump l.counters.superseded } }

/-- A frame joins the queue; when the queue would then hold five, the frame with the highest topic number is
dropped (R11). -/
def Link.enqueue (l : Link) (f : TxFrame) : Link × List TxReport :=
  let q := insertFrame f l.queue
  if q.length ≤ 4 then ({ l with queue := q }, [])
  else
    match q.getLast? with
    | none => ({ l with queue := q }, [])
    | some last => ({ l with queue := q.dropLast }.countDropped, [⟨last.topic, some last.seq, .dropped⟩])

/-- A block offers a frame (R10, R13). Before the load completes the queue accepts no offer. -/
def Link.offer (l : Link) (t : TxTopic) (payload : List Byte) : Link × List TxReport :=
  match l.state with
  | .inactive => (l, [])
  | .muted => (l.countDropped, [⟨t, none, .dropped⟩])
  | _ =>
    let n := l.seqs.get t + 1
    let f : TxFrame := ⟨t, n, payload⟩
    let l' := { l with seqs := l.seqs.set t n }
    match waitingOf l.queue t with
    | none => l'.enqueue f
    | some old =>
      ({ l' with queue := l.queue.map fun (g : TxFrame) => if g.topic == t then f else g }.countSuperseded,
        [⟨t, some old.seq, .superseded⟩])

/-- The frame on the wire loses arbitration (R7, R12). -/
def Link.loseArbitration (l : Link) (f : TxFrame) : Link × List TxReport :=
  let l' : Link :=
    { l with
      wire := none
      counters := { l.counters with arbitrationLosses := bump l.counters.arbitrationLosses } }
  match waitingOf l.queue f.topic with
  | some _ => (l'.countSuperseded, [⟨f.topic, some f.seq, .superseded⟩])
  | none => l'.enqueue f

/-- The flush of the queue on entering MUTED: every waiting frame, in topic order, is dropped (R17). -/
def Link.flush (l : Link) : Link × List TxReport :=
  ({ l with
      queue := []
      counters := { l.counters with dropped := addCount l.counters.dropped l.queue.length } },
    l.queue.map fun g => ⟨g.topic, some g.seq, .dropped⟩)

/-- The publisher forgets the limit frames whose outcome is reported; the other blocks act on no outcome
(R150, R151, R178). -/
def Publisher.forget (p : Publisher) (reports : List TxReport) : Publisher :=
  { p with
    awaited := p.awaited.filter fun (a : AwaitedLimit) => !reports.any fun (r : TxReport) => r.topic == a.topic && r.seq == some a.seq }

/-- A frame offered to the transmit queue, with the outcomes this gives reported to their blocks (R10). -/
def State.offer (s : State) (t : TxTopic) (payload : List Byte) : State :=
  let (l, reports) := s.link.offer t payload
  (s.setLink l).setPublisher (s.publisher.forget reports)

/-! ### The Fault Monitor's reports -/

/-- The degradation level as it now stands (R177). -/
def State.level (s : State) : Level3 := s.monitor.level s.estimator.latest

/-- The payload of an LT_STATUS frame (R178, R195). -/
def State.ltStatusPayload (s : State) : List Byte :=
  u16 s.monitor.faults.latchedWord ++ u8 s.monitor.lamp.code ++ u8 s.level.code ++
    u8 s.monitor.drivePath.code ++ u8 s.selector.mode.number

/-- The Monitor offers an LT_STATUS frame (R178). Before the load completes it offers nothing. -/
def State.offerLtStatus (s : State) : State :=
  if s.link.state = .inactive then s
  else
    (s.setMonitor { s.monitor with ltStatusOffers := bump s.monitor.ltStatusOffers }).offer .ltStatus
      s.ltStatusPayload

/-- The Monitor re-evaluates the lamp; a lamp that differs is recorded, counted and published (R176). -/
def State.refreshLamp (s : State) : State :=
  if s.monitor.lampNow = s.monitor.lamp then s
  else
    (s.setMonitor
      { s.monitor with
        lamp := s.monitor.lampNow
        lampChanges := bump s.monitor.lampChanges }).offerLtStatus

/-- A condition report of a fault's owner (R172). -/
def State.report (s : State) (f : Fault12) (becomesActive : Bool) : State :=
  (s.setMonitor
    { s.monitor with
      faults := s.monitor.faults.set f ((s.monitor.faults.get f).reported becomesActive) }).refreshLamp

/-- A condition is active: its active mark (log entry 6). -/
def State.conditionActive (s : State) (f : Fault12) : Bool := (s.monitor.faults.get f).active

/-- The owner of a condition finds it active or not, and reports it when that is a change (R172). -/
def State.setCondition (s : State) (f : Fault12) (active : Bool) : State :=
  if s.conditionActive f = active then s else s.report f active

/-- The Drive Regulator tells the Monitor its state and path (R123, R175). -/
def State.tellDrive (s : State) : State :=
  (s.setMonitor { s.monitor with driveState := s.drive.state, drivePath := s.drive.path }).refreshLamp

/-- The Drive Regulator tells the Monitor its state and path when one of them differs from what it was
(R123). -/
def State.tellDriveIfChanged (s : State) (before : Drive) : State :=
  if s.drive.state = before.state ∧ s.drive.path = before.path then s else s.tellDrive

/-- The Brake Supervisor tells the Monitor the states of both wheels when one of them differs from what it
was (R139, R175). -/
def State.tellBrakeIfChanged (s : State) (before : Brake) : State :=
  if s.brake.front.state = before.front.state ∧ s.brake.rear.state = before.rear.state then s
  else
    (s.setMonitor
      { s.monitor with
        frontWheel := s.brake.front.state
        rearWheel := s.brake.rear.state }).refreshLamp

/-- The generator tells the Monitor that a regulation cut is active or has ended (R161, R169, R175). -/
def State.tellCut (s : State) (active : Bool) : State :=
  if s.monitor.regulationCut = active then s
  else (s.setMonitor { s.monitor with regulationCut := active }).refreshLamp

/-! ### The running profile -/

/-- The running profile (R183). -/
def State.profile (s : State) : Profile := s.loader.profile

/-- The mode profile of the mode in force (R48). -/
def State.modeProfile (s : State) : ModeProfile := s.profile.modes.get s.selector.mode

/-- The binding of an entry (R19). -/
def State.binding (s : State) (e : EntryName) : Binding := s.profile.bindings.get e

/-- A sent frame as fields on the wire, with the CG-40's own station as sender (R3). -/
def State.wireFrame (s : State) (f : TxFrame) : Frame :=
  ⟨f.topic.number, s.profile.ownStation, f.seq, f.payload⟩

/-- The regulation state that another block reads: the one that the last completed step left, and before the first
step the PASSIVE of power-on (R51, R103, R104, R123). -/
def Drive.stateLeft (d : Drive) : DriveState := d.lastState.getD .passive

/-- The wheel state that another block reads: the one that the last completed step left, and before the first step
the PASSIVE of power-on (R130, R139, R147). -/
def Wheel.stateLeft (w : Wheel) : WheelState := w.lastState.getD .passive

/-- A timer that restarts at its expiry. -/
def State.restarted (s : State) (period : Nat) : Option Nat := some (s.now + period)

end Sys2Proof.Machine
end

