-- ==== Sys2Proof/Machine/CutGenerator.lean ====
section
/-! DEFINITION. The cut pattern generator (R160..R167, R169): regulation cuts, the cut test and the cut
line. -/

namespace Sys2Proof.Machine

/-- The length of `k` slots of a period of `periodMs` ms, in 0.1 ms: a slot is an eighth of the period
(R160). -/
def slotTime (periodMs k : Nat) : Nat := k * (periodMs / 8) * 10

/-- The moment at which the period timer of a running period runs out (R160). -/
def CutRun.ends (r : CutRun) (periodMs : Nat) : Nat := r.startedAt + periodMs * 10

/-- The generator with a period started now: the line asserted to the end of slot `k` (R161, R163, R166). -/
def Generator.start (g : Generator) (purpose : CutPurpose) (k now periodMs : Nat) : Generator :=
  { g with
    run := some ⟨purpose, k, now⟩
    assertionEnds := some (now + slotTime periodMs k)
    asserted := true
    regulationPeriods := if purpose = .regulation then bump g.regulationPeriods else g.regulationPeriods
    testPeriods := if purpose = .test then bump g.testPeriods else g.testPeriods }

/-- The generator IDLE: timers stopped, line released (R160, R164). -/
def Generator.idle (g : Generator) : Generator :=
  { g with run := none, assertionEnds := none, asserted := false }

/-- The generator with its running test cancelled (R167). -/
def Generator.cancelTest (g : Generator) : Generator :=
  { g.idle with cancelledTests := bump g.cancelledTests }

/-- A higher demand within a running regulation period: the assertion lengthens, or the line is asserted
again when the new end lies ahead (R162). -/
def Generator.extend (g : Generator) (r : CutRun) (k now periodMs : Nat) : Generator :=
  let newEnd := r.startedAt + slotTime periodMs k
  let raised := { g with run := some { r with slots := k } }
  if g.asserted then { raised with assertionEnds := some newEnd }
  else if now < newEnd then { raised with assertionEnds := some newEnd, asserted := true }
  else raised

/-- The front wheel stands: its speed is usable and below 1.00 m/s (R166, R167). -/
def Topics.atRest (t : Topics) : Bool :=
  match t.frontSpeed with
  | some v => decide (v < 100)
  | none => false

/-- A running test as the handover of a path leaves it (R161, R167). -/
def Generator.handoverToTest (g : Generator) (path : DrivePath) (atRest : Bool) : Generator :=
  match g.run with
  | some ⟨.test, _, _⟩ => if path = .cutLine ∨ !atRest then g.cancelTest else g
  | _ => g

/-- The generator after the handover of a path and a demand, its running test apart (R161, R162, R164). -/
def Generator.takeHandover (g : Generator) (path : DrivePath) (k now periodMs : Nat) : Generator :=
  match g.run with
  | none => if path = .cutLine ∧ 1 ≤ k then g.start .regulation k now periodMs else g
  | some ⟨.test, _, _⟩ => g
  | some r =>
    if path = .cutLine then (if r.slots < k then g.extend r k now periodMs else g) else g.idle

/-- A handover from the Drive Regulator (R161): the path and the demand are placed first. -/
def Generator.handover (g : Generator) (path : DrivePath) (k : Nat) (atRest : Bool) (now periodMs : Nat) :
    Generator :=
  (({ g with lastPath := path, latestDemand := k }.handoverToTest path atRest).takeHandover path k now
    periodMs)

/-- A regulation period runs, so the regulation cut is active (R161, R175). -/
def Generator.cutActive (g : Generator) : Bool :=
  match g.run with
  | some ⟨.regulation, _, _⟩ => true
  | _ => false

/-- The handover of a regulation step (R121, R161). Its notice to the Fault Monitor is part of
`State.tellStep`. -/
def State.handover (s : State) (path : DrivePath) (k : Nat) : State :=
  s.setGenerator (s.generator.handover path k s.topics.atRest s.now s.profile.cutPeriod)

/-- The Monitor's channel copy after a regulation step: the state and path of the regulator when one of them
differs from what it was, and the regulation cut of the generator (R123, R161, R175). -/
def Monitor.copyStep (m : Monitor) (before d : Drive) (cut : Bool) : Monitor :=
  if d.state = before.state ∧ d.path = before.path then { m with regulationCut := cut }
  else { m with driveState := d.state, drivePath := d.path, regulationCut := cut }

/-- The reports of one regulation step reach the Monitor together, and the lamp is decided from the copy as the
step leaves it: at a step that leaves the cut line, the LT_STATUS frame of its lamp change carries the new path
(R103, R123, R161, R175, R178; the worked sequence of chapter 9 at 225 ms; log entry 9). -/
def State.tellStep (s : State) (before : Drive) : State :=
  (s.setMonitor (s.monitor.copyStep before s.drive s.generator.cutActive)).refreshLamp

/-- The expiry of the assertion end timer releases the line (R163). -/
def Generator.assertionEnd (g : Generator) : Generator := { g with assertionEnds := none, asserted := false }

/-- The expiry of the period timer (R163, R167): a regulation period restarts with the latest demand or goes
IDLE, a test period goes IDLE. -/
def Generator.periodEnd (g : Generator) (now periodMs : Nat) : Generator :=
  match g.run with
  | some ⟨.regulation, _, _⟩ =>
    if 1 ≤ g.latestDemand then g.start .regulation g.latestDemand now periodMs else g.idle
  | _ => g.idle

/-- The slot count of a cut test from its data word (R166). -/
def testSlots (data : Nat) : Nat := clampNat 1 8 data

/-- The generator takes a cut test request (R166). -/
def Generator.mayTest (g : Generator) (atRest : Bool) : Bool :=
  !g.cutActive && g.lastPath != .cutLine && atRest

/-- The chassis reset of the generator: a running test is cancelled, the generator goes IDLE with its latest
demand at 0, the last path is kept and the counts return to 0 (R160, R169, R171). The count of cancelled
tests is among those the reset returns to 0 (log entry 13). -/
def Generator.reset (g : Generator) : Generator := { Generator.initial with lastPath := g.lastPath }

end Sys2Proof.Machine
end

