-- ==== Sys2Proof/Machine/GripBudget.lean ====
section
/-! DEFINITION. The Grip Budget Unit (R77..R102): the tangent table, the seven stages of a budget, the budget
record, the grip correction table and its relief. -/

namespace Sys2Proof.Machine

/-- TanQ for whole degrees 0..66: 1024 times the tangent, to the nearest whole number (R61). -/
def tanTable : List Nat :=
  [0, 18, 36, 54, 72, 90, 108, 126, 144, 162, 181, 199, 218, 236, 255, 274, 294, 313, 333, 353, 373, 393,
    414] ++
  [435, 456, 477, 499, 522, 544, 568, 591, 615, 640, 665, 691, 717, 744, 772, 800, 829, 859, 890, 922, 955,
    989, 1024] ++
  [1060, 1098, 1137, 1178, 1220, 1265, 1311, 1359, 1409, 1462, 1518, 1577, 1639, 1704, 1774, 1847, 1926,
    2010, 2100, 2196, 2300]

/-- One entry of the tangent table (R61). -/
def tanQ (d : Nat) : Nat := tanTable.getD d 0

/-! ### The seven stages -/

/-- Stage 1, the effective grip (R84). -/
def effectiveGrip (muBase : Nat) (corr : Int) (gripScale : Nat) (offset : Int) : Nat :=
  (clampInt 205 1536 (((muBase : Int) + corr) * ((gripScale : Int) + 32 * offset) / 1024)).toNat

/-- Stage 2, the lateral use of a lean magnitude in centidegrees (R85). -/
def lateralUseOf (magnitude : Nat) : Nat :=
  let d := magnitude / 100
  let t := magnitude % 100
  tanQ d + (tanQ (d + 1) - tanQ d) * t / 100

/-- Stage 3, the longitudinal allowance (R86). -/
def allowanceOf (muEff u : Nat) : Nat :=
  if muEff ≤ u then 0 else isqrt (muEff * muEff - u * u)

/-- Stage 4, the weight in N (R87). -/
def totalLoadOf (mass : Nat) : Nat := mass * 981 / 100

/-- Stage 4, the static load on the rear wheel in N (R87). -/
def rearLoadOf (total rearShare : Nat) : Nat := total * rearShare / 1024

/-- Stage 5, the drive grip limit in N·m (R88). -/
def driveGripLimitOf (allowance rearLoad rollingRadius driveFloor driveMax : Nat) : Nat :=
  clampNat driveFloor driveMax (allowance * rearLoad / 1024 * rollingRadius / 1000)

/-- Stage 6, the braking transfer in N from the acceleration used (R89). -/
def transferOf (mass height wheelbase rearLoad : Nat) (accel : Option Int) : Nat :=
  match accel with
  | some a => if a < 0 then min (mass * a.natAbs * height / (100 * wheelbase)) rearLoad else 0
  | none => 0

/-- Stage 7, the computed brake limit of a wheel in 0.1 bar, before the rear-light test (R90). -/
def brakeLimitOf (allowance wheelLoad gain floor : Nat) : Nat :=
  clampNat floor brakeMaximum (allowance * wheelLoad / 1024 * 10 / gain)

/-- The rear-light test: the rear wheel carries less than a tenth of the weight (R91). -/
def rearLightTest (total rearBraking : Nat) : Bool := decide (rearBraking < total / 10)

/-- The correction table entry of a band (R93). -/
def GripUnit.entry (g : GripUnit) (band : Nat) : BandCorrection := g.table.getD band ⟨0, false⟩

/-- The budget record drawn from a lean record and a load record, with the other inputs as they stand
(R78, R81, R84..R91). -/
def State.budgetRecord (s : State) (lean : LeanRecord) (load : LoadRecord) : BudgetRecord :=
  let p := s.profile
  let m := s.modeProfile
  let magnitude := lean.selected.natAbs
  let mu := effectiveGrip (p.gripRow lean.band).muBase (s.grip.entry lean.band).corr m.gripScale
    s.selector.offset
  let u := lateralUseOf magnitude
  let ax := allowanceOf mu u
  let total := totalLoadOf load.mass
  let rear := rearLoadOf total load.rearShare
  let front := total - rear
  let accel := s.topics.longAccel
  let dn := transferOf load.mass load.height p.wheelbase rear accel
  let light := rearLightTest total (rear - dn)
  { timeMade := s.stamp
    leanTime := lean.timeMade
    band := lean.band
    leanMagnitude := magnitude
    muEff := mu
    lateralUse := u
    allowance := ax
    saturated := decide (mu ≤ u)
    totalLoad := total
    frontLoad := front
    rearLoad := rear
    driveGripLimit := driveGripLimitOf ax rear p.rollingRadius m.driveFloor m.driveMax
    accelUsed := accel
    transfer := dn
    transferUnknown := accel.isNone
    frontBraking := front + dn
    rearBraking := rear - dn
    frontLimit := brakeLimitOf ax (front + dn) p.frontGain m.frontFloor
    rearLimit := if light then m.rearFloor else brakeLimitOf ax (rear - dn) p.rearGain m.rearFloor
    rearLight := light }

/-- A new budget record replaces the latest and is counted (R77, R81, R102). -/
def GripUnit.keep (g : GripUnit) (b : BudgetRecord) : GripUnit :=
  { g with
    latest := some b
    budgets := bump g.budgets
    saturatedBudgets := if b.saturated then bump g.saturatedBudgets else g.saturatedBudgets }

/-- The Grip Budget Unit is told of a new lean or load record: it draws a budget, unless no lean record
exists (R77). -/
def State.drawBudget (s : State) : State :=
  match s.estimator.latest, s.selector.load with
  | some lean, some load => s.setGrip (s.grip.keep (s.budgetRecord lean load))
  | _, _ => s

/-- The age of a budget record in 0.1 ms, modulo 2^32 (R82). -/
def State.budgetAge (s : State) (b : BudgetRecord) : Nat := (s.stamp - b.leanTime).toNat

/-! ### The grip correction table -/

/-- The senders of breach notices (R94). -/
inductive NoticeSender where
  | drive
  | brake
deriving DecidableEq, Repr

/-- The table entry of a band after a breach notice (R94). -/
def BandCorrection.breached (e : BandCorrection) : BandCorrection := ⟨max (-512) (e.corr - 32), true⟩

/-- The table entry of a band after a relief (R96). -/
def BandCorrection.relieved (e : BandCorrection) : BandCorrection :=
  if e.mark then ⟨e.corr, false⟩ else if e.corr < 0 then ⟨min 0 (e.corr + 4), false⟩ else ⟨e.corr, false⟩

/-- The unit after a breach notice for a band (R94, R102). -/
def GripUnit.breach (g : GripUnit) (band : Nat) (sender : NoticeSender) : GripUnit :=
  { g with
    table := g.table.set band (g.entry band).breached
    driveNotices := if sender = .drive then bump g.driveNotices else g.driveNotices
    brakeNotices := if sender = .brake then bump g.brakeNotices else g.brakeNotices
    floorLimited := if (g.entry band).corr = -512 then bump g.floorLimited else g.floorLimited }

/-- A breach notice reaches the unit (R94). -/
def State.breach (s : State) (band : Nat) (sender : NoticeSender) : State :=
  s.setGrip (s.grip.breach band sender)

/-- The relief: every unmarked band rises by 4, capped at 0, and all marks are cleared (R96). -/
def GripUnit.relieve (g : GripUnit) : GripUnit :=
  { g with table := g.table.map BandCorrection.relieved, reliefs := bump g.reliefs }

/-- The chassis reset returns every correction to 0 and clears every mark (R100). -/
def State.resetGrip (s : State) : State := s.setGrip { s.grip with table := clearedTable }

end Sys2Proof.Machine
end

