-- ==== Sys2Proof/Machine/Publisher.lean ====
section
/-! DEFINITION. The Limit Publisher (R148..R159, R168, R169): limit frames, GRIP_STATE, the echo lists, the
consumer status and the chassis reset. -/

namespace Sys2Proof.Machine

/-- The NO LIMIT marker (R2). -/
def noLimit : Nat := 65535

/-! ### Limit frames and GRIP_STATE -/

/-- The payload of a limit frame (R195). -/
def LimitValue.payload : LimitValue → List Byte
  | .drive v => u16 v
  | .brakes front rear => u16 front ++ u16 rear

/-- The topic of the limit frames of a consumer (R148, R149). -/
def limitTopic : Consumer → TxTopic
  | .engine => .driveLimit
  | .brake => .brakeLimit

/-- The consumer of a topic's frames, for the two limit topics (R150). -/
def TxTopic.consumer? : TxTopic → Option Consumer
  | .driveLimit => some .engine
  | .brakeLimit => some .brake
  | _ => none

/-- The fault that reports a SILENT consumer (R159). -/
def silentFault : Consumer → Fault12
  | .engine => .engineSilent
  | .brake => .brakeSilent

/-- The publisher keeps the sequence and the value of a limit frame it offers (R150). -/
def Publisher.await (p : Publisher) (a : AwaitedLimit) : Publisher := { p with awaited := p.awaited ++ [a] }

/-- A limit frame is offered, and its sequence and value kept until its outcome (R148, R149, R150). -/
def State.offerLimit (s : State) (c : Consumer) (v : LimitValue) : State :=
  let n := s.link.seqs.get (limitTopic c) + 1
  (s.setPublisher (s.publisher.await ⟨limitTopic c, n, v⟩)).offer (limitTopic c) v.payload

/-- One consumer's track with one more value withheld (R148, R149, R171). -/
def Track.withhold (t : Track) : Track := { t with withheld := bump t.withheld }

/-- A value handed for a consumer: offered when the link is JOINED, withheld and counted otherwise (R148,
R149). -/
def State.publishLimit (s : State) (c : Consumer) (v : LimitValue) : State :=
  if s.link.state = .joined then s.offerLimit c v
  else s.setPublisher (s.publisher.setTrack c (s.publisher.track c).withhold)

/-- The status byte of GRIP_STATE (R195). -/
def gripStatusByte (lean : Option LeanRecord) (budget : Option BudgetRecord) : Nat :=
  (match lean with
    | some r => r.status.code
    | none => 7) +
  (match budget with
    | some b => 8 * b.saturated.toNat + 16 * b.transferUnknown.toNat + 32 * b.rearLight.toNat
    | none => 64)

/-- The payload of a GRIP_STATE frame (R151, R195). -/
def State.gripStatePayload (s : State) : List Byte :=
  let lean := s.estimator.latest
  let budget := s.grip.latest
  i16Or (lean.map (·.published)) ++ u8 (gripStatusByte lean budget) ++ u8Or (budget.map (·.band)) ++
    u8Or (budget.map fun b => min 254 (s.budgetAge b / 10)) ++
    u16Or (budget.map (·.driveGripLimit)) ++ u16Or (budget.map (·.frontLimit)) ++
    u16Or (budget.map (·.rearLimit))

/-! ### Consumer status -/

/-- A track after a miss of its consumer (R158). -/
def Track.miss (t : Track) : Track :=
  let n := bump255 t.misses
  { t with
    misses := n
    matches' := 0
    status :=
      match t.status with
      | .following => .lagging
      | .lagging => if 3 ≤ n then .silent else .lagging
      | .silent => .silent }

/-- The status of a consumer after a match, judged with the count of matches in a row (R158). -/
def ConsumerStatus.afterMatch (status : ConsumerStatus) (inARow : Nat) : ConsumerStatus :=
  match status with
  | .following => .following
  | .lagging => .following
  | .silent => if 4 ≤ inARow then .following else .silent

/-- A track whose consumer is found silent: at the absent run reaching 3 or a STALE notice (R158). -/
def Track.silence (t : Track) : Track := { t with status := .silent, matches' := 0 }

/-- The publisher with a consumer's track replaced, and the SILENT condition reported when it changes
(R159). -/
def State.setTrack (s : State) (c : Consumer) (t : Track) : State :=
  (s.setPublisher (s.publisher.setTrack c t)).setCondition (silentFault c) (decide (t.status = .silent))

/-! ### The echo lists -/

/-- Stage 1 of a delivery: an entry of the same sequence is removed as a miss (R153). -/
def Track.dropSame (t : Track) (n : Seq) : Track :=
  if t.echoes.any (fun e => e.seq == n) then
    { ({ t with echoes := t.echoes.filter fun (e : EchoEntry) => e.seq != n }).miss with
      replaced := bump t.replaced }
  else t

/-- Stage 2 of a delivery: of a list of four the oldest is removed as a miss (R153). -/
def Track.dropOldest (t : Track) : Track :=
  if 4 ≤ t.echoes.length then
    { ({ t with echoes := t.echoes.tail }).miss with overruns := bump t.overruns }
  else t

/-- A DELIVERED limit frame enters the list of its consumer (R153). -/
def Track.deliver (t : Track) (e : EchoEntry) : Track :=
  let t' := (t.dropSame e.seq).dropOldest
  { t' with echoes := t'.echoes ++ [e], deliveries := bump t'.deliveries }

/-- An echo is a stray: the list is empty, the echo lies 8 or more behind the newest, or no entry carries it
(R154). -/
def isStray (echoes : List EchoEntry) (e : Seq) : Bool :=
  match echoes.getLast? with
  | none => true
  | some newest => decide (8 ≤ (newest.seq - e).toNat) || !echoes.any (fun x => x.seq == e)

/-- The entries newer than the entry of sequence `e` (R154). -/
def newerThan (e : Seq) : List EchoEntry → List EchoEntry
  | [] => []
  | x :: rest => if x.seq = e then rest else newerThan e rest

/-- A track after an echo has been judged (R154, R158). -/
def Track.judgeEcho (t : Track) (e : Seq) : Track :=
  if isStray t.echoes e then { t with strays := bump t.strays }
  else
    let n := bump255 t.matches'
    { t with
      echoes := newerThan e t.echoes
      matchCount := bump t.matchCount
      misses := 0
      matches' := n
      status := t.status.afterMatch n }

/-- A track after an arrival of the consumer's entry (R154, R157). -/
def Track.arrival (t : Track) (echo : Option Nat) : Track :=
  match echo with
  | some e => { t with absentRun := 0 }.judgeEcho (BitVec.ofNat 4 e)
  | none =>
    let t' := { t with absentRun := bump255 t.absentRun }
    if t.absentRun = 2 then t'.silence else t'

/-- A track after the deadline of its oldest entry (R155). -/
def Track.deadline (t : Track) : Track :=
  { ({ t with echoes := t.echoes.tail }).miss with deadlineMisses := bump t.deadlineMisses }

/-- An arrival of a consumer's state entry at the publisher (R154, R157). -/
def State.echoArrival (s : State) (c : Consumer) : State :=
  s.setTrack c ((s.publisher.track c).arrival (s.topics.echo c))

/-- The STALE notice of a consumer's entry at the publisher (R158). -/
def State.consumerStale (s : State) (c : Consumer) : State := s.setTrack c (s.publisher.track c).silence

/-- The publisher takes the outcome of a limit frame: a delivered one enters the echo list, and the frame is
forgotten (R150). -/
def State.limitOutcome (s : State) (f : TxFrame) (outcome : TxOutcome) : State :=
  let awaited := s.publisher.awaited.find? fun a => a.topic == f.topic && a.seq == f.seq
  let t := s.setPublisher (s.publisher.forget [⟨f.topic, some f.seq, outcome⟩])
  match f.topic.consumer?, awaited with
  | some c, some a =>
    if outcome = .delivered then
      t.setTrack c ((t.publisher.track c).deliver ⟨f.seq, a.value, s.now⟩)
    else t
  | _, _ => t

/-- The chassis reset of the publisher and of its generator; the frames awaited and the GRIP_STATE timer are
kept (R169). -/
def State.resetPublisher (s : State) : State :=
  let p := { s.publisher with engine := Track.initial, brake := Track.initial }
  ((((s.setPublisher p).setCondition .engineSilent false).setCondition .brakeSilent false).setGenerator
    s.generator.reset).tellCut false

end Sys2Proof.Machine
end

