-- ==== Sys2Proof/Machine/LinkControl.lean ====
section
/-! DEFINITION. The Chassis Link Controller but for the handover of heard frames (R7..R9, R12, R14..R17): the
frame on the wire and its outcome, the link states and the join wait. -/

namespace Sys2Proof.Machine

/-! ### Joining -/

/-- The store with every entry changed in the same way. -/
def Topics.mapEntries (t : Topics) (f : Entry → Entry) : Topics :=
  { t with
    wheelSpeeds := f t.wheelSpeeds
    inertialRates := f t.inertialRates
    inertialAccel := f t.inertialAccel
    inertialLean := f t.inertialLean
    engineState := f t.engineState
    brakeState := f t.brakeState
    suspensionState := f t.suspensionState
    dashSelect := f t.dashSelect }

/-- The join-wait-begun notice clears the heard marks of all eight entries (R15, R35). -/
def Topics.clearHeard (t : Topics) : Topics := t.mapEntries fun x => { x with heard := false }

/-- The join condition: every entry whose binding carries the required-for-join flag has its heard mark set
(R15). -/
def State.joinCondition (s : State) : Bool :=
  EntryName.all.all fun e => !(s.binding e).required || (s.topics.get e).heard

/-- The link enters JOINED and the join wait stops (R15, R16). -/
def State.join (s : State) : State :=
  s.setLink { s.link with state := .joined, joinWaitEnds := none }

/-- The link enters SILENT: a join wait begins with the heard marks cleared, PEERS_MISSING becomes inactive,
and with no required entry the link passes to JOINED at once (R15, R16). -/
def State.enterSilent (s : State) : State :=
  let t := ((s.setLink { s.link with state := .silent, joinWaitEnds := some (s.now + joinWait) }).setTopics
    s.topics.clearHeard).setCondition .peersMissing false
  if t.joinCondition then t.join else t

/-- A heard-mark notice of the Topic Store (R15, R16). -/
def State.heardNotice (s : State) : State :=
  match s.link.state with
  | .silent => if s.joinCondition then s.join else s
  | .joined => if s.joinCondition then s.setCondition .peersMissing false else s
  | _ => s

/-- The join wait expires in SILENT: the link enters JOINED and PEERS_MISSING becomes active (R16). -/
def State.joinWaitExpired (s : State) : State := s.join.setCondition .peersMissing true

/-! ### Failures and the mute -/

/-- The link enters MUTED: the queue is flushed, the mute timer starts, LINK_MUTED becomes active (R17). -/
def State.enterMuted (s : State) : State :=
  let (l, reports) := s.link.flush
  ((s.setLink { l with state := .muted, muteEnds := some (s.now + mutePeriod) }).setPublisher
    (s.publisher.forget reports)).setCondition .linkMuted true

/-- A failure outcome advances the consecutive-failure count, and at 16 the link enters MUTED (R14). -/
def State.countFailure (s : State) : State :=
  let t := s.setLink { s.link with failures := min 16 (s.link.failures + 1) }
  if 16 ≤ s.link.failures + 1 then t.enterMuted else t

/-- The end of the mute period (R17). -/
def State.muteExpired (s : State) : State :=
  let t := s.setCondition .linkMuted false
  (t.setLink { t.link with failures := 0, muteEnds := none }).enterSilent

/-! ### The frame on the wire -/

/-- The lowest waiting frame leaves the queue and goes on the wire (R7). -/
def Link.startFrame (l : Link) : Link :=
  match l.queue with
  | f :: rest => { l with queue := rest, wire := some f }
  | [] => l

/-- A frame may start: the part takes part in the link, is JOINED and sends none already (R4, R7, R8). -/
def Link.mayStart (l : Link) : Bool := l.state == .joined && l.wire.isNone && !l.awaitingIdle

/-- At an idle medium a waiting frame starts (R7). -/
def State.startFrame (s : State) : State := if s.link.mayStart then s.setLink s.link.startFrame else s

/-- The frame on the wire meets the priority key on the medium: a lower key than its own takes the medium
from it (R7, R12). -/
def State.arbitrate (s : State) (key : Nat) : State :=
  match s.link.wire with
  | none => s
  | some f =>
    if key < priorityKey f.topic.number s.profile.ownStation then
      let (l, reports) := s.link.loseArbitration f
      (s.setLink l).setPublisher (s.publisher.forget reports)
    else s

/-- The frame on the wire is aborted with outcome COLLIDED (R6, R8). -/
def State.collide (s : State) : State :=
  match s.link.wire with
  | none => s
  | some f =>
    let l : Link :=
      { s.link with
        wire := none
        awaitingIdle := true
        counters := { s.link.counters with collided := bump s.link.counters.collided } }
    (((s.setLink l).limitOutcome f .collided).countFailure).setCondition .stationClash true

/-- The count of an outcome read in the acknowledgement slot (R9, R18). -/
def LinkCounters.countSlot (c : LinkCounters) (o : TxOutcome) : LinkCounters :=
  match o with
  | .delivered => { c with delivered := bump c.delivered }
  | .rejected => { c with rejected := bump c.rejected }
  | _ => { c with unheard := bump c.unheard }

/-- The link after a DELIVERED outcome: the failure count is 0 and STATION_CLASH inactive (R6, R14). -/
def State.afterDelivery (s : State) : State :=
  (s.setLink { s.link with failures := 0 }).setCondition .stationClash false

/-- The frame on the wire takes its outcome from the acknowledgement slot (R9). -/
def State.slotRead (s : State) (first second : Level) : State :=
  match s.link.wire with
  | none => s
  | some f =>
    let o := slotOutcome first second
    let t := (s.setLink { s.link with wire := none, counters := s.link.counters.countSlot o }).limitOutcome f o
    if o = .delivered then t.afterDelivery else t.countFailure

end Sys2Proof.Machine
end

