-- ==== Sys2Proof/Machine/BrakeSupervisor.lean ====
section
/-! DEFINITION. The Brake Supervisor (R129..R147): the brake step of each wheel, the brake values and the ABS
onset. -/

namespace Sys2Proof.Machine

/-- What a brake step reads of one wheel (R129): demand and applied pressure, ABS-active flag, computed limit
and the floor of the mode in force. -/
structure WheelInputs where
  demand : Option Nat
  applied : Option Nat
  abs : Option Bool
  computed : Nat
  floor : Nat
deriving DecidableEq, Repr

/-- A wheel that gives its limit up: INHIBITED (R131) or PASSIVE (R132). -/
def Wheel.release (w : Wheel) (state : WheelState) : Wheel := { w with state := state, published := none }

/-- The slew of a published limit towards the computed one, and whether a fall slew left it above (R134,
R135). -/
def Wheel.slew (w : Wheel) (computed rise fall : Nat) : Nat × Bool :=
  match w.published with
  | none => (computed, false)
  | some p =>
    if p < computed then (min computed (p + rise), false)
    else if computed < p then
      if w.state = .engaged then
        let q := max computed (p - fall)
        (q, decide (computed < q))
      else (computed, false)
    else (p, false)

/-- The applied pressure has come up to the limit: present and within 2.0 bar of it or above (R137). -/
def engagedBy (applied : Option Nat) (limit : Nat) : Bool :=
  match applied with
  | some a => decide (limit ≤ a + 20)
  | none => false

/-- Stage 4 of a wheel (R134..R137). -/
def Wheel.limit (w : Wheel) (x : WheelInputs) (rise fall : Nat) : Wheel :=
  let (p, limited) := w.slew x.computed rise fall
  let p' := clampNat x.floor brakeMaximum p
  { w with
    state := if engagedBy x.applied p' then .engaged else .advising
    published := some p'
    lastComputed := some x.computed
    lastApplied := x.applied
    fallLimited := if limited then bump w.fallLimited else w.fallLimited }

/-- Stage 3 of a wheel whose ABS flag is set (R133, R136). -/
def Wheel.yield (w : Wheel) (x : WheelInputs) : Wheel :=
  { w with
    state := .yielded
    published := some (clampNat x.floor brakeMaximum (w.published.getD x.computed)) }

/-- The demand of a wheel calls for a limit: 5.0 bar or more (R132). -/
def demandCounts (demand : Option Nat) : Bool :=
  match demand with
  | some d => decide (50 ≤ d)
  | none => false

/-- Stages 2 to 4 of a wheel (R132..R137). -/
def Wheel.supervise (w : Wheel) (x : WheelInputs) (rise fall : Nat) : Wheel :=
  if !demandCounts x.demand then w.release .passive
  else if x.abs = some true then w.yield x
  else w.limit x rise fall

/-- The wheel ends the step in a state that the step before did not end in, whatever a chassis reset did between
the two (R147). THE MODEL'S CHOICE (log entry 15): the first step after the load, which follows no step, counts
as one that follows a step that ended in another state. -/
def Wheel.newly (w before : Wheel) (state : WheelState) : Bool :=
  w.state == state && before.lastState != some state

/-- The counts of a step, and what it leaves for other blocks to read (R137, R139, R147). -/
def Wheel.countStep (w before : Wheel) : Wheel :=
  { w with
    engagements := if w.newly before .engaged then bump w.engagements else w.engagements
    yields := if w.newly before .yielded then bump w.yields else w.yields
    inhibitedEntries := if w.newly before .inhibited then bump w.inhibitedEntries else w.inhibitedEntries
    lastState := some w.state
    lastPublished := w.published }

/-- The brake value of a wheel: P_pub, or NO LIMIT in PASSIVE and INHIBITED (R138). -/
def Wheel.value (w : Wheel) : Nat :=
  match w.state with
  | .passive => noLimit
  | .inhibited => noLimit
  | _ => w.published.getD noLimit

/-- The sensing check of both wheels but for the budget record (R131). -/
def State.brakeChannelOpen (s : State) : Bool :=
  s.topics.brakeState.usable && s.link.state == .joined && s.publisher.brake.status != .silent

/-- What a brake step reads of the front wheel (R129). -/
def State.frontInputs (s : State) (b : BudgetRecord) : WheelInputs :=
  ⟨s.topics.frontDemand, s.topics.frontApplied, s.topics.frontAbs, b.frontLimit, s.modeProfile.frontFloor⟩

/-- What a brake step reads of the rear wheel (R129). -/
def State.rearInputs (s : State) (b : BudgetRecord) : WheelInputs :=
  ⟨s.topics.rearDemand, s.topics.rearApplied, s.topics.rearAbs, b.rearLimit, s.modeProfile.rearFloor⟩

/-- Both wheels after the stages of a brake step (R129, R131). -/
def State.brakeStages (s : State) : Wheel × Wheel :=
  let w := s.brake
  let m := s.modeProfile
  let inhibited := (w.front.release .inhibited, w.rear.release .inhibited)
  match s.grip.latest with
  | some b =>
    if 200 < s.budgetAge b ∨ !s.brakeChannelOpen then inhibited
    else
      (w.front.supervise (s.frontInputs b) m.brakeRise m.brakeFall,
        w.rear.supervise (s.rearInputs b) m.brakeRise m.brakeFall)
  | none => inhibited

/-- The supervisor after the stages and the counts of a brake step. -/
def State.brakeAfter (s : State) : Brake :=
  let (f, r) := s.brakeStages
  { s.brake with front := f.countStep s.brake.front, rear := r.countStep s.brake.rear }

/-- One brake step: the stages, the pair handed on, the report (R129, R138, R139). -/
def State.brakeStep (s : State) : State :=
  let b := s.brakeAfter
  ((s.setBrake b).publishLimit .brake (.brakes b.front.value b.rear.value)).tellBrakeIfChanged s.brake

/-! ### ABS onset -/

/-- A flag begins to act: it is set and the memory is clear (R140). -/
def isOnset (abs : Option Bool) (memory : Bool) : Bool := abs == some true && !memory

/-- The ABS memory after an arrival (R140). -/
def memoryAfter (abs : Option Bool) (memory : Bool) : Bool := abs.getD memory

/-- An onset sends a breach notice: a budget record exists and its band is 2 or more (R141). -/
def onsetBand (latest : Option BudgetRecord) : Option Nat :=
  match latest with
  | some b => if 2 ≤ b.band then some b.band else none
  | none => none

/-- A wheel after a BRAKE_STATE arrival (R140, R141). THE MODEL'S CHOICE (log entry 16): an arrival between the
profile load and the first brake step sets or clears the ABS memory and counts an onset as R140 has every arrival do,
though R130 has the wheel hold its power-on values until that step. -/
def Wheel.arrival (w : Wheel) (abs : Option Bool) (noticed : Bool) : Wheel :=
  let onset := isOnset abs w.absMemory
  { w with
    absMemory := memoryAfter abs w.absMemory
    lastMemory := memoryAfter abs w.absMemory
    absOnsets := if onset then bump w.absOnsets else w.absOnsets
    breachNotices := if onset && noticed then bump w.breachNotices else w.breachNotices }

/-- The breach notice of one wheel's onset, where there is one (R141). -/
def State.onsetNotice (s : State) (abs : Option Bool) (memory : Bool) : State :=
  match onsetBand s.grip.latest with
  | some band => if isOnset abs memory then s.breach band .brake else s
  | none => s

/-- A BRAKE_STATE arrival at the supervisor (R140, R141). -/
def State.absArrival (s : State) : State :=
  let b := s.brake
  let noticed := (onsetBand s.grip.latest).isSome
  let t := (s.onsetNotice s.topics.frontAbs b.front.absMemory).onsetNotice s.topics.rearAbs b.rear.absMemory
  t.setBrake
    { b with
      front := b.front.arrival s.topics.frontAbs noticed
      rear := b.rear.arrival s.topics.rearAbs noticed }

/-- A wheel after a chassis reset (R145). -/
def Wheel.reset (w : Wheel) : Wheel := { w with state := .passive, published := none, absMemory := false }

/-- The chassis reset of the supervisor (R145). -/
def State.resetBrake (s : State) : State :=
  (s.setBrake { s.brake with front := s.brake.front.reset, rear := s.brake.rear.reset }).tellBrakeIfChanged
    s.brake

end Sys2Proof.Machine
end

