-- ==== Sys2Proof/Machine/DriveRegulator.lean ====
section
/-! DEFINITION. The Drive Regulator (R103..R128): sensing, path, passive condition, slip and its states, the
drive value and the slot demand. -/

namespace Sys2Proof.Machine

/-! ### Slip and the cut -/

/-- The rear wheel slip in parts of 1024 (R108). -/
def slipOf (vf vr : Nat) : Nat :=
  if vf < vr then clampNat 0 1024 ((vr - vf) * 1024 / vf) else 0

/-- The slip target of a band under the slip scale of a mode (R108). -/
def slipTargetOf (target scale : Nat) : Nat := target * scale / 1024

/-- A torque reduced by one cut (R109, R112). -/
def cutOnce (torque fraction : Nat) : Nat := torque * (1024 - fraction) / 1024

/-- The start value of an intervention: the smallest of T_work, T_g and the delivered torque where it counts
(R112). -/
def cutStart (working gripLimit : Nat) (delivered : Option Nat) : Nat :=
  match delivered with
  | some d => min (min working gripLimit) d
  | none => min working gripLimit

/-! ### The stages of a step -/

/-- What a regulation step makes of the regulator, and whether it entered CUTTING from TRACKING or RAMPING,
which sends a breach notice (R112), and whether late wheel speeds froze it (R117). -/
structure StepResult where
  drive : Drive
  breach : Bool
  frozen : Bool
deriving DecidableEq, Repr

/-- A step that settles the state with no notice and no freeze. -/
def Drive.settled (d : Drive) : StepResult := ⟨d, false, false⟩

/-- The regulator INHIBITED (R105, R106). -/
def Drive.inhibit (d : Drive) : Drive :=
  { d with state := .inhibited, path := .none, working := none, holdCount := 0 }

/-- The regulator PASSIVE on a path (R107). -/
def Drive.makePassive (d : Drive) (path : DrivePath) : Drive :=
  { d with state := .passive, path := path, working := none, holdCount := 0 }

/-- The output path from link state, engine consumer status and cut-line permission (R106). -/
def choosePath (link : LinkState) (status : ConsumerStatus) (permitted : Bool) : DrivePath :=
  if link = .joined ∧ status ≠ .silent then .bus else if permitted then .cutLine else .none

/-- A step frozen by late wheel speeds (R117). -/
def Drive.freeze (d : Drive) (path : DrivePath) (gripLimit : Nat) : Drive :=
  match d.state with
  | .passive => { d with path := path, working := none }
  | .inhibited => { d with path := .none, working := none }
  | _ => { d with path := path, working := d.working.map fun t => min t gripLimit }

/-- The regulator CUTTING with a working limit (R112, R113, R114). -/
def Drive.cutTo (d : Drive) (t : Nat) : Drive := { d with state := .cutting, working := some t, holdCount := 0 }

/-- A step in RAMPING with slip within target (R115). -/
def Drive.ramp (d : Drive) (t gripLimit recoveryRise : Nat) : Drive :=
  let t' := min gripLimit (t + recoveryRise)
  { d with
    state := if t' = gripLimit then .tracking else .ramping
    working := some t'
    holdCount := 0 }

/-- Stage 4 with FRESH wheel speeds (R110..R115). `d` has its path and its slip parts already placed. -/
def Drive.regulate (d : Drive) (above : Bool) (gripLimit : Nat) (delivered : Option Nat) (m : ModeProfile) :
    StepResult :=
  let t := d.working.getD 0
  let enter : StepResult := ⟨d.cutTo (cutOnce (cutStart t gripLimit delivered) m.cutFraction), true, false⟩
  let again : StepResult := (d.cutTo (cutOnce (min t gripLimit) m.cutFraction)).settled
  match d.state with
  | .passive => { d with state := .tracking, working := some gripLimit, holdCount := 0 }.settled
  | .inhibited => { d with state := .tracking, working := some gripLimit, holdCount := 0 }.settled
  | .tracking =>
    if above then enter
    else { d with working := some (min gripLimit (t + m.trackingRise)) }.settled
  | .cutting =>
    if above then again
    else
      { d with state := .holding, working := some (min t gripLimit), holdCount := m.holdSteps }.settled
  | .holding =>
    if above then again
    else if d.holdCount ≤ 1 then (d.ramp (min t gripLimit) gripLimit m.recoveryRise).settled
    else { d with working := some (min t gripLimit), holdCount := d.holdCount - 1 }.settled
  | .ramping => if above then enter else (d.ramp t gripLimit m.recoveryRise).settled

/-- The path and the slip parts of a step that measures slip (R108). -/
def Drive.measure (d : Drive) (path : DrivePath) (slip target band : Nat) : Drive :=
  { d with path := path, lastSlip := some slip, lastTarget := some target, lastBand := some band }

/-- The neutral gear or the low speed of stage 3 (R107). -/
def passiveCondition (gear : Option Nat) (vf : Nat) : Bool := gear == some 0 || decide (vf < 300)

/-- The four stages of a regulation step on the inputs as they stand (R103, R105..R117). -/
def State.driveStages (s : State) : StepResult :=
  let d := s.drive
  let m := s.modeProfile
  match s.grip.latest, s.topics.frontSpeed, s.topics.rearSpeed with
  | some b, some vf, some vr =>
    let path := choosePath s.link.state s.publisher.engine.status m.cutPermitted
    if 200 < s.budgetAge b then d.inhibit.settled
    else if path = .none then d.inhibit.settled
    else if passiveCondition s.topics.gear vf then (d.makePassive path).settled
    else if s.topics.wheelSpeeds.freshness = .late then ⟨d.freeze path b.driveGripLimit, false, true⟩
    else
      let slip := slipOf vf vr
      let target := slipTargetOf (s.profile.gripRow b.band).slipTarget m.slipScale
      (d.measure path slip target b.band).regulate (decide (target < slip)) b.driveGripLimit
        s.topics.deliveredTorque m
  | _, _, _ => d.inhibit.settled

/-! ### What the step hands on -/

/-- The drive value: T_work, or NO LIMIT in PASSIVE and INHIBITED (R119). -/
def Drive.value (d : Drive) : Nat :=
  match d.state with
  | .passive => noLimit
  | .inhibited => noLimit
  | _ => d.working.getD noLimit

/-- The slot demand of a step on the CUT_LINE path (R120). -/
def Drive.demandOnCutLine (d : Drive) (demand : Option Nat) (blindSlots : Nat) : Nat :=
  match d.state with
  | .passive => 0
  | .inhibited => 0
  | _ =>
    match demand with
    | some r =>
      let t := d.working.getD 0
      if t < r then ceilDiv (8 * (r - t)) r else 0
    | none => if d.state = .cutting ∨ d.state = .holding then blindSlots else 0

/-- The slot demand (R120). -/
def Drive.demand (d : Drive) (demand : Option Nat) (blindSlots : Nat) : Nat :=
  if d.path = .cutLine then d.demandOnCutLine demand blindSlots else 0

/-- The counts of a step, and what it leaves for other blocks to read (R123). An inhibited entry is a step that ends INHIBITED after a step
that did not, whatever a chassis reset did between the two (R128). THE MODEL'S CHOICE (log entry 15): the first
step after the load, which follows no step, counts as one that follows a step that did not end INHIBITED. -/
def Drive.countStep (d before : Drive) (r : StepResult) : Drive :=
  { d with
    cutEntries := if r.breach then bump d.cutEntries else d.cutEntries
    reCuts := if before.state = .holding ∧ d.state = .cutting then bump d.reCuts else d.reCuts
    inhibitedEntries :=
      if d.state = .inhibited ∧ before.lastState ≠ some .inhibited then bump d.inhibitedEntries
      else d.inhibitedEntries
    frozenSteps := if r.frozen then bump d.frozenSteps else d.frozenSteps
    cutLineSteps := if d.path = .cutLine then bump d.cutLineSteps else d.cutLineSteps
    lastState := some d.state
    lastWorking := d.working
    lastHold := d.holdCount }

/-- The regulator after a step: its state, its slot demand, its counts (R104, R120, R128). -/
def State.driveAfter (s : State) (r : StepResult) : Drive :=
  let d := r.drive.countStep s.drive r
  { d with lastDemand := d.demand s.topics.riderDemand s.profile.blindSlots }

/-- The breach notice of a step that entered CUTTING from TRACKING or RAMPING, for the band of the budget it
used (R112). -/
def State.driveNotice (s : State) (r : StepResult) : State :=
  match r.breach, s.grip.latest with
  | true, some b => s.breach b.band .drive
  | _, _ => s

/-- One regulation step: the stages, the notice, and then the drive value, the handover and the reports to the
Fault Monitor (R103). -/
def State.regulationStep (s : State) : State :=
  let r := s.driveStages
  let d := s.driveAfter r
  let t := ((s.driveNotice r).setDrive d).publishLimit .engine (.drive d.value)
  (t.handover d.path d.lastDemand).tellStep s.drive

/-- The chassis reset of the regulator (R126). -/
def State.resetDrive (s : State) : State :=
  (s.setDrive { s.drive with state := .passive, working := none, holdCount := 0 }).tellDriveIfChanged s.drive

end Sys2Proof.Machine
end

