-- ==== Sys2Proof/Machine/LeanEstimator.lean ====
section
/-! DEFINITION. The Lean Estimator (R55..R76): the three candidates, the selection, the lean record, the
disagreement run, the integration base and the chassis reset. -/

namespace Sys2Proof.Machine

/-! ### The candidates -/

/-- The lateral ratio q, formed in two parts so that every intermediate stays within 32 bits (R59). -/
def lateralRatio (speed yaw : Nat) : Nat :=
  let x := speed * yaw
  let a := x / 10000
  let b := x % 10000
  let c := a * 18218 / 1000
  let e := a * 18218 % 1000
  c + (e * 10000 + b * 18218) / 10000000

/-- The largest whole degree 0..d whose tangent entry is at most q (R60). -/
def degreeBelow : Nat → Nat → Nat
  | 0, _ => 0
  | d + 1, q => if tanQ (d + 1) ≤ q then d + 1 else degreeBelow d q

/-- The lean magnitude of a lateral ratio, by the tangent table (R60). -/
def leanOfRatio (q : Nat) : Nat :=
  if tanQ 65 ≤ q then 6500
  else
    let d := degreeBelow 64 q
    100 * d + 100 * (q - tanQ d) / (tanQ (d + 1) - tanQ d)

/-- The kinematic candidate K (R58, R59, R60). -/
def kinematicCandidate (yaw : Option Int) (speed : Option Nat) : Option Int :=
  match yaw, speed with
  | some w, some v => if 300 ≤ v then some (withSign (leanOfRatio (lateralRatio v w.natAbs)) w) else none
  | _, _ => none

/-- The pod candidate P (R62). -/
def podCandidate (angle : Option Int) (confidence : Option Nat) : Option Int :=
  match angle, confidence with
  | some a, some c => if 50 ≤ c then some (a * 10) else none
  | _, _ => none

/-- The integration interval in 0.1 ms, 1..200, from the time that has run on the base's validity timer
(R63). -/
def integrationInterval (elapsed : Nat) : Nat := clampNat 1 baseValidity elapsed

/-- The integrated candidate I: the base carried forward by the roll rate, truncated towards zero and
clamped (R63). -/
def integratedCandidate (roll : Option Int) (base : Option LeanBase) (now : Nat) : Option Int :=
  match roll, base with
  | some p, some b =>
    some (clampInt (-6500) 6500 (b.lean + (p * (integrationInterval (now - b.madeAt) : Int)).tdiv 1000))
  | _, _ => none

/-! ### Selection -/

/-- The median of three values (R64). -/
def median (a b c : Int) : Int := max (min a b) (min (max a b) c)

/-- The one of two candidates with the larger magnitude, the first on a tie (R65). -/
def largerLean (a b : Int) : Int := if a.natAbs < b.natAbs then b else a

/-- The selected lean and its status; the assumed lean stands in when no candidate is available
(R64..R67). -/
def selectLean (k p i : Option Int) (assumed : Nat) : Int × LeanStatus :=
  match k, p, i with
  | some k, some p, some i => (median k p i, .full)
  | some k, some p, none => (largerLean k p, .pair)
  | some k, none, some i => (largerLean k i, .pair)
  | none, some p, some i => (largerLean p i, .pair)
  | some k, none, none => (k, .single)
  | none, some p, none => (p, .single)
  | none, none, some i => (i, .single)
  | none, none, none => ((assumed : Int), .lost)

/-- The spread: the largest of two or three candidates minus the smallest, absent with fewer (R69). -/
def spreadOf (k p i : Option Int) : Option Int :=
  match k, p, i with
  | some k, some p, some i => some (max (max k p) i - min (min k p) i)
  | some k, some p, none => some (max k p - min k p)
  | some k, none, some i => some (max k i - min k i)
  | none, some p, some i => some (max p i - min p i)
  | _, _, _ => none

/-- The lean record of an estimate (R68, R69). -/
def makeLeanRecord (cause : LeanCause) (k p i : Option Int) (assumed : Nat) (time : Stamp) : LeanRecord :=
  let (selected, status) := selectLean k p i assumed
  { cause := cause
    selected := selected
    status := status
    kinematic := k
    pod := p
    integrated := i
    spread := spreadOf k p i
    band := selected.natAbs / 500
    published := tenthRounded selected
    timeMade := time }

/-- The lean record that an event makes from the entries as they stand: three candidates at A, the pod at B,
none at C (R55). -/
def State.leanRecord (s : State) (cause : LeanCause) : LeanRecord :=
  let k := if cause = .a then kinematicCandidate s.topics.yawRate s.topics.frontSpeed else none
  let p := if cause = .c then none else podCandidate s.topics.podAngle s.topics.podConfidence
  let i := if cause = .a then integratedCandidate s.topics.rollRate s.estimator.base s.now else none
  makeLeanRecord cause k p i s.profile.assumedLean s.stamp

/-! ### The estimate -/

/-- The disagreement run after a new record (R71). -/
def runAfter (run : Nat) (spread : Option Int) : Nat :=
  match spread with
  | some d => if 800 < d then bump255 run else 0
  | none => 0

/-- The latest record replaced, its status counted and the run brought up to date (R68, R71, R76). -/
def Estimator.keep (e : Estimator) (r : LeanRecord) : Estimator :=
  { e with
    latest := some r
    disagreementRun := runAfter e.disagreementRun r.spread
    fullRecords := if r.status = .full then bump e.fullRecords else e.fullRecords
    pairRecords := if r.status = .pair then bump e.pairRecords else e.pairRecords
    singleRecords := if r.status = .single then bump e.singleRecords else e.singleRecords
    lostRecords := if r.status = .lost then bump e.lostRecords else e.lostRecords }

/-- The integration base after a new record (R56). -/
def baseAfter (r : LeanRecord) (now : Nat) : Option LeanBase :=
  if r.status = .lost then none else some ⟨r.selected, now⟩

/-- LEAN_DISAGREE and LEAN_LOST brought up to date (R71, R72). -/
def State.refreshLeanConditions (s : State) (r : LeanRecord) : State :=
  (s.setCondition .leanDisagree (decide (20 ≤ s.estimator.disagreementRun))).setCondition .leanLost
    (decide (r.status = .lost))

/-- The integration base kept, replaced or discarded at the end of an estimate (R56). -/
def State.refreshBase (s : State) (r : LeanRecord) : State :=
  s.setEstimator { s.estimator with base := baseAfter r s.now }

/-- One lean estimate, in its stages: the record, the run and the conditions, the base, the announcement
(R55). -/
def State.estimate (s : State) (cause : LeanCause) : State :=
  let r := s.leanRecord cause
  (((s.setEstimator (s.estimator.keep r)).refreshLeanConditions r).refreshBase r).drawBudget

/-- An INERTIAL_LEAN arrival is event B only while the rates entry is STALE or NEVER (R55). -/
def State.podArrival (s : State) : State :=
  if s.topics.inertialRates.usable then s else s.estimate .b

/-- The chassis reset of the estimator (R74). -/
def State.resetEstimator (s : State) : State :=
  ((s.setEstimator { s.estimator with base := none, disagreementRun := 0 }).setCondition .leanDisagree
    false).setCondition .leanLost false

end Sys2Proof.Machine
end

