-- ==== Sys2Proof/Machine/Selector.lean ====
section
/-! DEFINITION. The Load and Mode Selector (R40..R54): the load record and its sources, the load latch with
its at-rest timer, the rider requests and their adoption. -/

namespace Sys2Proof.Machine

/-! ### The load record -/

/-- The distance, without sign, of a row's added mass from an estimate (R42). -/
def LoadRow.distance (r : LoadRow) (a : Nat) : Nat := ((r.added : Int) - a).natAbs

/-- The row nearest to an estimate among a row and the rows after it: on a tie the larger added mass, and
with equal added mass the later row (R42). -/
def nearestFrom (a : Nat) (best : LoadRow) : List LoadRow → LoadRow
  | [] => best
  | r :: rest =>
    if r.distance a < best.distance a ∨ (r.distance a = best.distance a ∧ best.added ≤ r.added) then
      nearestFrom a r rest
    else nearestFrom a best rest

/-- The row of the load table whose added mass is nearest to an estimate (R42). -/
def Profile.nearestRow (p : Profile) (a : Nat) : LoadRow := nearestFrom a (p.loadRow 0) p.loadTable.tail

/-- A load record from a row and an added mass (R42). -/
def Profile.loadRecord (p : Profile) (added : Nat) (row : LoadRow) (source : LoadSource) : LoadRecord :=
  ⟨clampNat 250 800 (p.baseMass + added), row.height, row.rearShare, source⟩

/-- The load record that the entries now give, by the first source whose condition holds (R42). -/
def State.loadRecord (s : State) : LoadRecord :=
  let p := s.profile
  match s.topics.addedMass, s.topics.loadSetting with
  | some a, _ => p.loadRecord a (p.nearestRow a) .suspension
  | none, some k => p.loadRecord (p.loadRow k).added (p.loadRow k) .dash
  | none, none => p.loadRecord (p.loadRow 0).added (p.loadRow 0) .default

/-- The load record is recomputed and announced to the Grip Budget Unit (R43). -/
def State.recomputeLoad (s : State) : State :=
  (s.setSelector { s.selector with load := some s.loadRecord }).drawBudget

/-- An arrival or STALE notice recomputes the load record while the latch is OPEN (R43). -/
def State.recomputeIfOpen (s : State) : State :=
  if s.selector.latch = .opened then s.recomputeLoad else s

/-! ### The load latch -/

/-- The at-rest timer runs and no stale episode of WHEEL_SPEEDS has come since it started (R46). -/
def Selector.timerStands (x : Selector) (staleEpisodes : Nat) : Bool :=
  x.atRestEnds.isSome && x.notedStale == staleEpisodes

/-- The latch evaluated at a WHEEL_SPEEDS arrival with a front speed (R44, R45, R46). -/
def Selector.evaluateLatch (x : Selector) (v staleEpisodes now : Nat) : Selector :=
  match x.latch with
  | .opened => if 500 ≤ v then { x with latch := .latched } else x
  | .latched =>
    if 100 ≤ v then { x with atRestEnds := none }
    else if x.timerStands staleEpisodes then x
    else { x with atRestEnds := some (now + atRestTime), notedStale := staleEpisodes }

/-- A WHEEL_SPEEDS arrival at the selector; without a front speed it is not evaluated (R44, R45, R46). -/
def State.latchArrival (s : State) : State :=
  match s.topics.frontSpeed with
  | none => s
  | some v => s.setSelector (s.selector.evaluateLatch v s.topics.wheelSpeeds.staleEpisodes s.now)

/-- The expiry of the at-rest timer: unless a stale episode voids it, the latch opens and the load record is
recomputed; the timer is stopped in either case (R46, R47). -/
def State.atRestExpired (s : State) : State :=
  let stopped := { s.selector with atRestEnds := none }
  if s.topics.wheelSpeeds.freshness = .stale ∨
      s.topics.wheelSpeeds.staleEpisodes ≠ s.selector.notedStale then s.setSelector stopped
  else (s.setSelector { stopped with latch := .opened }).recomputeLoad

/-! ### Rider requests -/

/-- The pending slot after a DASH_SELECT arrival that holds a mode and an offset (R50). -/
def Selector.judgeRequest (x : Selector) (r : ModeRequest) : Selector :=
  if r.mode = x.mode ∧ r.offset = x.offset then
    { x with
      request := none
      withdrawals := if x.request.isSome then bump x.withdrawals else x.withdrawals }
  else { x with request := some r, requests := bump x.requests }

/-- The same arrival under the fallback profile, whose mode record is fixed (R53). -/
def Selector.ignoreRequest (x : Selector) (r : ModeRequest) : Selector :=
  if r.mode = .wet ∧ r.offset = 0 then x else { x with ignoredRequests := bump x.ignoredRequests }

/-- The mode request of a DASH_SELECT arrival; with mode or offset absent it judges nothing (R50, R53). -/
def State.requestArrival (s : State) : State :=
  match s.topics.dashMode, s.topics.dashOffset with
  | some m, some o =>
    let r : ModeRequest := ⟨Mode.ofNumber m, o⟩
    s.setSelector (if s.loader.fallback then s.selector.ignoreRequest r else s.selector.judgeRequest r)
  | _, _ => s

/-- The two conditions of adoption: the last completed regulation step left the drive channel in a state that does
not intervene, and the rider demand is at most the drive floor of the mode in force (R51). -/
def State.mayAdopt (s : State) : Bool :=
  (s.drive.stateLeft == .passive || s.drive.stateLeft == .tracking || s.drive.stateLeft == .inhibited) &&
    match s.topics.riderDemand with
    | some d => decide (d ≤ s.modeProfile.driveFloor)
    | none => false

/-- The selector with a request placed in force (R51). -/
def Selector.adopt (x : Selector) (r : ModeRequest) : Selector :=
  { x with mode := r.mode, offset := r.offset, request := none, adoptions := bump x.adoptions }

/-- The adoption test at a DASH_SELECT or ENGINE_STATE arrival (R51). -/
def State.testAdoption (s : State) : State :=
  match s.selector.request with
  | some r => if s.mayAdopt then s.setSelector (s.selector.adopt r) else s
  | none => s

/-- A DASH_SELECT arrival at the selector: load record, then request, then adoption (R34, R43, R50, R51; log
entry 9). -/
def State.dashArrival (s : State) : State := (s.recomputeIfOpen.requestArrival).testAdoption

/-- The STALE notice of DASH_SELECT empties the pending slot (R50). -/
def Selector.withdraw (x : Selector) : Selector :=
  { x with
    request := none
    withdrawals := if x.request.isSome then bump x.withdrawals else x.withdrawals }

/-- The STALE notice of DASH_SELECT at the selector (R43, R50). -/
def State.dashStale (s : State) : State :=
  let t := s.recomputeIfOpen
  t.setSelector t.selector.withdraw

/-- The mode record when the profile load completes (R48, R53). -/
def Selector.startMode (x : Selector) (p : Profile) : Selector :=
  { x with mode := Mode.ofNumber p.defaultMode, offset := 0, request := none }

end Sys2Proof.Machine
end

