-- ==== Sys2Proof/Machine/Records.lean ====
section
/-! DEFINITION. The service records that READ returns (R18, R39, R54, R76, R102, R128, R147, R171, R179, R186,
R191, R193): the parts of each in the order of its rule, each in its form (log entry 10). -/

namespace Sys2Proof.Machine

/-- The store stage of record 0: 0 none, 2..5 pages 0..3, 6 read-back (R193); the check code and the compare
take no time, so no READ finds them. -/
def storeStageCode : Option Store → Nat
  | none => 0
  | some st =>
    match st.stage with
    | .pageBurst p => 2 + p
    | .pageWait p _ => 2 + p
    | .readBack _ => 6

/-- Record 0: identity and the responder's own state (R191, R193). -/
def State.record0 (s : State) : List Byte :=
  let r := s.responder
  u16 0x3A17 ++ u16 0x0040 ++ u8 1 ++ flag s.loader.fallback ++ u8 s.profile.ownStation ++
    u8 s.profile.format ++ flag r.windowEnds.isSome ++ u16Or (s.remainingMs r.windowEnds) ++
    u8 (storeStageCode r.store) ++ u16 r.ignoredRequests ++ u16 r.replies ++ u16 r.stores ++
    u16 r.failedStores

/-- One fault of record 1 (R179). -/
def FaultMark.bytes (m : FaultMark) : List Byte := flag m.active ++ flag m.latched ++ u8 m.count

/-- Record 1: fault set, lamp, level, channel copy and counts (R179). -/
def State.record1 (s : State) : List Byte :=
  let m := s.monitor
  (Fault12.all.flatMap fun f => (m.faults.get f).bytes) ++ u8 m.lamp.code ++ u8 s.level.code ++
    u8 m.driveState.code ++ u8 m.drivePath.code ++ u8 m.frontWheel.code ++ u8 m.rearWheel.code ++
    u8 (regulationCutCode m.regulationCut) ++ u16 m.lampChanges ++ u16 m.clearRequests ++
    u16 m.ltStatusOffers

/-- Record 2: the ten link counters (R18). -/
def State.record2 (s : State) : List Byte :=
  let c := s.link.counters
  u16 c.headerErrors ++ u16 c.payloadErrors ++ u16 c.unbound ++ u16 c.delivered ++ u16 c.rejected ++
    u16 c.unheard ++ u16 c.collided ++ u16 c.superseded ++ u16 c.dropped ++ u16 c.arbitrationLosses

/-- Records 3 to 10: one topic entry (R39). -/
def State.entryRecord (s : State) (e : EntryName) : List Byte :=
  let b := s.binding e
  let x := s.topics.get e
  u16 b.topic ++ u8 b.sender ++ u16 b.deadline ++ flag b.required ++ u8 x.freshness.code ++
    u8Or (x.lastSeq.map BitVec.toNat) ++ u16 (s.entryAge x) ++ flag x.heard ++
    encodeFields (fieldForms e) x.fields ++ u16 x.accepted ++ u16 x.duplicates ++ u16 x.missed ++
    u8 x.intruders ++ u16 x.malformed ++ u16 x.clampedFields ++ u16 x.lateEpisodes ++ u16 x.staleEpisodes

/-- The lean record of record 11, or absent codes throughout (R68, R76). -/
def leanBytes (r : Option LeanRecord) : List Byte :=
  u8Or (r.map (·.cause.code)) ++ i16Or (r.map (·.selected)) ++ u8Or (r.map (·.status.code)) ++
    i16Or (r.bind (·.kinematic)) ++ i16Or (r.bind (·.pod)) ++ i16Or (r.bind (·.integrated)) ++
    u16Or (r.bind fun x => x.spread.map Int.toNat) ++ u8Or (r.map (·.band)) ++
    i16Or (r.map (·.published)) ++ u32Or (r.map (·.timeMade))

/-- Record 11: lean record and estimator (R76). -/
def State.record11 (s : State) : List Byte :=
  let e := s.estimator
  leanBytes e.latest ++ i16Or (e.base.map (·.lean)) ++
    u8Or (s.remaining (e.base.map fun b => b.madeAt + baseValidity)) ++ u8 e.disagreementRun ++
    flag (s.conditionActive .leanDisagree) ++ flag (s.conditionActive .leanLost) ++ u16 e.fullRecords ++
    u16 e.pairRecords ++ u16 e.singleRecords ++ u16 e.lostRecords

/-- The budget record of record 12 with its age, or absent codes throughout (R81, R102). -/
def State.budgetBytes (s : State) (r : Option BudgetRecord) : List Byte :=
  u32Or (r.map (·.timeMade)) ++ u32Or (r.map (·.leanTime)) ++ u8Or (r.map (·.band)) ++
    u16Or (r.map (·.leanMagnitude)) ++ u16Or (r.map (·.muEff)) ++ u16Or (r.map (·.lateralUse)) ++
    u16Or (r.map (·.allowance)) ++ u8Or (r.map (·.saturated.toNat)) ++ u16Or (r.map (·.totalLoad)) ++
    u16Or (r.map (·.frontLoad)) ++ u16Or (r.map (·.rearLoad)) ++ u16Or (r.map (·.driveGripLimit)) ++
    i16Or (r.bind (·.accelUsed)) ++ u16Or (r.map (·.transfer)) ++ u8Or (r.map (·.transferUnknown.toNat)) ++
    u16Or (r.map (·.frontBraking)) ++ u16Or (r.map (·.rearBraking)) ++ u16Or (r.map (·.frontLimit)) ++
    u16Or (r.map (·.rearLimit)) ++ u8Or (r.map (·.rearLight.toNat)) ++
    u32Or (r.map fun b => s.stamp - b.leanTime)

/-- Record 12: grip correction table and budget record (R102). -/
def State.record12 (s : State) : List Byte :=
  let g := s.grip
  g.table.flatMap (fun e => i16 e.corr) ++ g.table.flatMap (fun e => flag e.mark) ++
    u16Or (s.remainingMs g.reliefEnds) ++ s.budgetBytes g.latest ++ u16 g.budgets ++
    u16 g.saturatedBudgets ++ u16 g.driveNotices ++ u16 g.brakeNotices ++ u16 g.floorLimited ++
    u16 g.reliefs

/-- The Drive Regulator's part of record 13, as the last completed step left it (R123, R128). -/
def State.driveBytes (s : State) : List Byte :=
  let d := s.drive
  u8 d.stateLeft.code ++ u8 d.path.code ++ u16Or d.lastWorking ++ u8 d.lastHold ++ u16Or d.lastSlip ++
    u16Or d.lastTarget ++ u8Or d.lastBand ++ u8 d.lastDemand ++ u8Or (s.remaining d.stepDue) ++
    u16 d.cutEntries ++ u16 d.reCuts ++ u16 d.inhibitedEntries ++ u16 d.frozenSteps ++ u16 d.cutLineSteps

/-- The selector's part of record 13 (R54). -/
def State.selectorBytes (s : State) : List Byte :=
  let x := s.selector
  u16Or (x.load.map (·.mass)) ++ u16Or (x.load.map (·.height)) ++ u16Or (x.load.map (·.rearShare)) ++
    u8Or (x.load.map (·.source.code)) ++ u8 x.latch.code ++ u16Or (s.remainingMs x.atRestEnds) ++
    u8 x.mode.number ++ i16 x.offset ++ u8Or (x.request.map (·.mode.number)) ++
    i16Or (x.request.map (·.offset)) ++ u16 x.requests ++ u16 x.withdrawals ++ u16 x.adoptions ++
    u16 x.ignoredRequests

/-- Record 13: drive regulator, load and mode (R54, R128). -/
def State.record13 (s : State) : List Byte := s.driveBytes ++ s.selectorBytes

/-- One wheel of record 14, as the last completed step and the last arrival left it (R139, R147). -/
def Wheel.bytes (w : Wheel) : List Byte :=
  u8 w.stateLeft.code ++ u16Or w.lastPublished ++ flag w.lastMemory ++ u16Or w.lastComputed ++
    u16Or w.lastApplied ++ u16 w.engagements ++ u16 w.yields ++ u16 w.absOnsets ++ u16 w.breachNotices ++
    u16 w.fallLimited ++ u16 w.inhibitedEntries

/-- Record 14: brake supervisor (R147). -/
def State.record14 (s : State) : List Byte :=
  s.brake.front.bytes ++ s.brake.rear.bytes ++ u8Or (s.remaining s.brake.stepDue)

/-- One used entry place of record 15 (R171). -/
def State.echoBytes (s : State) (e : EchoEntry) : List Byte :=
  u8 e.seq.toNat ++ e.value.payload ++ u32 (BitVec.ofNat 32 e.deliveredAt) ++
    u16Or (s.remaining (some (e.deliveredAt + echoDeadline)))

/-- An unused entry place: absent codes (R193). -/
def unusedPlace : Consumer → List Byte
  | .engine => List.replicate 9 0xFF
  | .brake => List.replicate 11 0xFF

/-- One echo list at its full capacity of four places (R171, R193). -/
def State.echoListBytes (s : State) (c : Consumer) : List Byte :=
  let list := (s.publisher.track c).echoes
  list.flatMap s.echoBytes ++ (List.replicate (4 - list.length) (unusedPlace c)).flatten

/-- The judgement of one consumer in record 15 (R171). -/
def Track.bytes (t : Track) : List Byte :=
  u8 t.status.code ++ u8 t.misses ++ u8 t.matches' ++ u8 t.absentRun

/-- The counts of record 15, each count for both lists before the next (R171). -/
def State.publisherCounts (s : State) : List Byte :=
  let e := s.publisher.engine
  let b := s.publisher.brake
  let g := s.generator
  u16 e.withheld ++ u16 b.withheld ++ u16 e.deliveries ++ u16 b.deliveries ++ u16 e.matchCount ++
    u16 b.matchCount ++ u16 e.strays ++ u16 b.strays ++ u16 e.deadlineMisses ++ u16 b.deadlineMisses ++
    u16 e.overruns ++ u16 b.overruns ++ u16 e.replaced ++ u16 b.replaced ++ u16 g.regulationPeriods ++
    u16 g.testPeriods ++ u16 g.cancelledTests

/-- The generator's part of record 15 (R171). The cut line travels as the flag "whether the line is asserted" of
R171, 1 when asserted, and not as a named state in the order of R160 (DEDUCED, log entry 10). -/
def State.generatorBytes (s : State) : List Byte :=
  let g := s.generator
  u8 g.run.isSome.toNat ++ u8Or (g.run.map (·.purpose.code)) ++ u8Or (g.run.map (·.slots)) ++
    u8 g.latestDemand ++ u8 g.lastPath.code ++
    u16Or (s.remaining (g.run.map fun r => r.ends s.profile.cutPeriod)) ++
    u16Or (s.remaining g.assertionEnds) ++ flag g.asserted

/-- Record 15: echo lists, consumer status, cut pattern generator (R171). -/
def State.record15 (s : State) : List Byte :=
  s.echoListBytes .engine ++ s.echoListBytes .brake ++ s.publisher.engine.bytes ++
    s.publisher.brake.bytes ++ s.publisherCounts ++ s.generatorBytes ++
    u8Or (s.remainingMs s.publisher.gripStateDue)

/-- A numbered record as it stands, 0..16 (R186). -/
def State.serviceRecord (s : State) (n : Nat) : Option (List Byte) :=
  match n with
  | 0 => some s.record0
  | 1 => some s.record1
  | 2 => some s.record2
  | 3 => some (s.entryRecord .wheelSpeeds)
  | 4 => some (s.entryRecord .inertialRates)
  | 5 => some (s.entryRecord .inertialAccel)
  | 6 => some (s.entryRecord .inertialLean)
  | 7 => some (s.entryRecord .engineState)
  | 8 => some (s.entryRecord .brakeState)
  | 9 => some (s.entryRecord .suspensionState)
  | 10 => some (s.entryRecord .dashSelect ++ u16 s.topics.announcedResets ++ u16 s.topics.ignoredResets)
  | 11 => some s.record11
  | 12 => some s.record12
  | 13 => some s.record13
  | 14 => some s.record14
  | 15 => some s.record15
  | 16 => some (s.responder.pendingImage.readBytes 0 256)
  | _ => none

end Sys2Proof.Machine
end

