-- ==== Sys2Proof/Machine/Service.lean ====
section
/-! DEFINITION. The Service Responder (R184..R191): the commissioning window, the requests and their replies,
the profile store and its stages, and the bursts of the serial memory port (R180, R188). -/

namespace Sys2Proof.Machine

/-! ### Replies -/

/-- The reply statuses (R195). -/
inductive ServiceStatus where
  | ok
  | badCode
  | badKind
  | badRecord
  | badOffset
  | windowClosed
  | busy
  | notAtRest
  | storeFailed
deriving DecidableEq, Repr

/-- The number of a reply status (R195). -/
def ServiceStatus.code : ServiceStatus → Nat
  | .ok => 0
  | .badCode => 1
  | .badKind => 2
  | .badRecord => 3
  | .badOffset => 4
  | .windowClosed => 5
  | .busy => 6
  | .notAtRest => 7
  | .storeFailed => 8

/-- A request's fields (R194). -/
structure Request where
  target : Byte
  tag : Byte
  code : Byte
  kind : Byte
  record : Byte
  offset : Byte
  data : BitVec 16
  mask : BitVec 16
deriving DecidableEq, Repr

/-- The fields of a request payload (R194). -/
def readRequest (p : List Byte) : Request :=
  let at' (i : Nat) : Byte := p.getD i 0
  ⟨at' 0, at' 1, at' 2, at' 3, at' 4, at' 5, at' 6 ++ at' 7, at' 8 ++ at' 9⟩

/-- The payload of a service reply (R195). -/
def replyPayload (tag record offset : Byte) (status : ServiceStatus) (data : List Byte) : List Byte :=
  tag :: u8 status.code ++ [record, offset] ++ data

/-- A reply is offered and counted (R185). -/
def State.offerReply (s : State) (tag record offset : Byte) (status : ServiceStatus) (data : List Byte) :
    State :=
  (s.setResponder { s.responder with replies := bump s.responder.replies }).offer .serviceReply
    (replyPayload tag record offset status data)

/-- The reply to a request (R185). -/
def State.answer (s : State) (r : Request) (status : ServiceStatus) (data : List Byte) : State :=
  s.offerReply r.tag r.record r.offset status data

/-! ### The commissioning window -/

/-- The commissioning window is open (R184). -/
def State.windowOpen (s : State) : Bool := s.responder.windowEnds.isSome

/-- The commissioning window closed, its timer stopped (R184). -/
def State.closeWindow (s : State) : State := s.setResponder { s.responder with windowEnds := none }

/-- A WHEEL_SPEEDS arrival of 1.00 m/s or more closes the window (R184). -/
def State.windowArrival (s : State) : State :=
  match s.topics.frontSpeed with
  | some v => if 100 ≤ v then s.closeWindow else s
  | none => s

/-! ### The serial memory -/

/-- The check code over bytes 0..253 of an image (R181). -/
def imageCode (m : Memory) : BitVec 16 := payloadCheck (bytesToBits (m.readBytes 0 254))

/-- The image with its check code placed in bytes 254..255, most significant byte first (R188). -/
def withCode (m : Memory) : Memory := m.writeBytes 254 (u16 (imageCode m).toNat)

/-- The 64 bytes of burst `k` as the part reads them: what MIN carried, or what the serial memory holds (log
entry 2). -/
def State.burstBytes (s : State) (k : Nat) (min : Option (List Byte)) : List Byte :=
  match min with
  | some bytes => (bytes ++ List.replicate 64 erasedByte).take 64
  | none => s.memory.readBytes (64 * k) 64

/-- A read burst ends: its bytes enter the image being read, and MSEL is released (R180, R188). -/
def State.takeBurst (s : State) (k : Nat) (min : Option (List Byte)) : State :=
  s.setLoader
    { s.loader with
      readImage := s.loader.readImage.writeBytes (64 * k) (s.burstBytes k min)
      burstEnded := some s.now }

/-- The serial memory with a page whose programming was cut short: free values (log entry 3). -/
def State.spoilPage (s : State) (page : Nat) : State :=
  (s.setMemory
    (s.memory.writeBytes (64 * page)
      ((List.range 64).map fun i => Config.interruptedPageByte s.draws (64 * page + i)))).setDraws
    (s.draws + 1)

/-! ### The profile store -/

/-- The responder's store in a new stage. -/
def State.setStage (s : State) (st : Store) (stage : StoreStage) : State :=
  s.setResponder { s.responder with store := some { st with stage := stage } }

/-- A store begins: it is counted, the check code is placed in the pending image, the burst of page 0 starts
(R188). THE MODEL'S CHOICE (log entry 2): it starts at the moment the request is taken. -/
def State.beginStore (s : State) (r : Request) : State :=
  s.setResponder
    { s.responder with
      store := some ⟨.pageBurst 0, r.tag, r.record, r.offset⟩
      pendingImage := withCode s.responder.pendingImage
      stores := bump s.responder.stores }

/-- The completion of a store: no store in progress, the reply with the store request's tag, the STORE_FAILED
condition (R173, R188). -/
def State.finishStore (s : State) (st : Store) (succeeded : Bool) : State :=
  let r :=
    { s.responder with
      store := none
      failedStores := if succeeded then s.responder.failedStores else bump s.responder.failedStores }
  ((s.setResponder r).offerReply st.tag st.record st.offset (if succeeded then .ok else .storeFailed)
    []).setCondition .storeFailed (!succeeded)

/-- The programming burst of a page ends and the wait for its done report begins (R188). -/
def State.pageBurstEnded (s : State) (st : Store) (page : Nat) : State :=
  s.setStage st (.pageWait page s.now)

/-- A page is done: the serial memory holds it, and the next page or the read-back begins (R188). THE MODEL'S CHOICE
(log entry 2): its first burst starts at the moment of the done report. -/
def State.pageDone (s : State) (st : Store) (page : Nat) : State :=
  let t := s.setMemory
    (s.memory.writeBytes (64 * page) (s.responder.pendingImage.readBytes (64 * page) 64))
  if page < 3 then t.setStage st (.pageBurst (page + 1))
  else (t.setLoader { t.loader with readImage := [], burstEnded := none }).setStage st (.readBack 0)

/-- The image read back agrees with the pending image in every byte (R188). -/
def State.readBackAgrees (s : State) : Bool :=
  s.loader.readImage.readBytes 0 256 == s.responder.pendingImage.readBytes 0 256

/-! ### Requests -/

/-- READ (R186). -/
def State.serveRead (s : State) (r : Request) : State :=
  match s.serviceRecord r.record.toNat with
  | none => s.answer r .badRecord []
  | some bytes =>
    if r.offset.toNat < bytes.length then s.answer r .ok ((bytes.drop r.offset.toNat).take 8)
    else s.answer r .badOffset []

/-- A word changed under a mask: a set mask bit takes the data bit (R187). -/
def maskedWord (old data mask : BitVec 16) : BitVec 16 := (old &&& ~~~mask) ||| (data &&& mask)

/-- WRITE_MASKED past stage 4 (R187). -/
def State.serveWrite (s : State) (r : Request) : State :=
  let a := r.offset.toNat
  if r.record ≠ 16 then s.answer r .badRecord []
  else if a % 2 = 1 then s.answer r .badOffset []
  else if !s.windowOpen then s.answer r .windowClosed []
  else
    let image := s.responder.pendingImage
    let old : BitVec 16 := image.read a ++ image.read (a + 1)
    let image' := image.writeBytes a (u16 (maskedWord old r.data r.mask).toNat)
    (s.setResponder { s.responder with pendingImage := image' }).answer r .ok (u16 old.toNat)

/-- STORE_PROFILE past stage 4 (R188). -/
def State.serveStore (s : State) (r : Request) : State :=
  if s.windowOpen then s.beginStore r else s.answer r .windowClosed []

/-- CLEAR_FAULTS: the Monitor clears the latched marks of the inactive faults, counts the request and
re-evaluates the lamp; the reply carries the latched set that remains (R174, R190). -/
def State.serveClear (s : State) (r : Request) : State :=
  let m :=
    { s.monitor with
      faults := s.monitor.faults.cleared
      clearRequests := bump s.monitor.clearRequests }
  let t := (s.setMonitor m).refreshLamp
  t.answer r .ok (u16 t.monitor.faults.latchedWord)

/-- CUT_TEST (R166, R190). -/
def State.serveTest (s : State) (r : Request) : State :=
  if s.generator.mayTest s.topics.atRest then
    (s.setGenerator
      (s.generator.start .test (testSlots r.data.toNat) s.now s.profile.cutPeriod)).answer r .ok []
  else s.answer r .notAtRest []

/-- The kinds other than READ, past stage 4 (R185). -/
def State.serveKind (s : State) (r : Request) : State :=
  if r.kind = 2 then s.serveWrite r
  else if r.kind = 3 then s.serveStore r
  else if r.kind = 4 then s.serveClear r
  else s.serveTest r

/-- Stages 2 to 5 of the judgement of a request (R185). -/
def State.judgeRequest (s : State) (r : Request) : State :=
  if r.kind = 0 ∨ 5 < r.kind then s.answer r .badKind []
  else if r.kind = 1 then s.serveRead r
  else if s.responder.store.isSome then s.answer r .busy []
  else if r.code.toNat ≠ s.profile.serviceCode then s.answer r .badCode []
  else s.serveKind r

/-- A topic 950 frame at the responder (R185). -/
def State.serve (s : State) (payload : List Byte) : State :=
  let r := readRequest payload
  if payload.length ≠ 10 ∨ r.target.toNat ≠ s.profile.ownStation then
    s.setResponder { s.responder with ignoredRequests := bump s.responder.ignoredRequests }
  else s.judgeRequest r

/-! ### The pins -/

/-- The pins the part drives (R5, R7, R180, R188, R192). -/
structure Pins where
  /-- CUT pulled low. -/
  cut : Bool
  /-- MSEL asserted, with MCLK and MOUT driven: a burst runs. -/
  burst : Bool
  /-- The levels of the frame on the wire on LKH and LKL. -/
  sending : Option (List Level)
  /-- The two acknowledgement slot bits driven in the last frame heard. -/
  slot : Level × Level
deriving DecidableEq, Repr

/-- The next read burst has begun: none has ended yet, or time has passed since the end of the last one. MSEL is
released between bursts for a time that the manual leaves to the memory and CLK; THE MODEL'S CHOICE (log entry 2)
is that the next burst begins within the tenth of a millisecond that follows. -/
def State.readBurstRuns (s : State) : Bool :=
  match s.loader.burstEnded with
  | none => true
  | some t => decide (t < s.now)

/-- A burst of the serial memory port runs: during each read burst of the load or of a read-back, and during each
page burst of a store; not between read bursts, nor while a page is programmed (R180, R188). THE MODEL'S CHOICE (log
entry 2): a page burst, and the first burst of a read-back, follow what they wait for without a gap. -/
def State.burstRuns (s : State) : Bool :=
  match s.loader.phase, s.responder.store with
  | .loading _, _ => s.readBurstRuns
  | .running, some st =>
    match st.stage with
    | .pageBurst _ => true
    | .pageWait _ _ => false
    | .readBack _ => s.readBurstRuns
  | .running, none => false

/-- What the part drives on its pins. -/
def State.pins (s : State) : Pins where
  cut := s.generator.asserted
  burst := s.burstRuns
  sending := s.link.wire.map fun f => sentLevels (s.wireFrame f)
  slot := s.link.slotDrive.levels

end Sys2Proof.Machine
end

