-- ==== Sys2Proof/Machine/TopicStore.lean ====
section
/-! DEFINITION. The Topic Store (R19..R38) and the receive path of the link (R4, R5, R6): acceptance, decoding,
freshness, arrivals, STALE notices and the chassis reset. -/

namespace Sys2Proof.Machine

/-! ### Acceptance -/

/-- What an entry makes of a frame offered to it (R22, R23, R24). -/
inductive Verdict where
  | malformed
  | intruder
  | duplicate
  | accepted
deriving DecidableEq, Repr

/-- The entry judges sequences: it is FRESH or LATE (R24). -/
def Entry.repeats (x : Entry) (seq : Seq) : Bool := x.usable && x.lastSeq == some seq

/-- The three checks in turn: length, sender, sequence (R22, R23, R24). -/
def Entry.judge (x : Entry) (e : EntryName) (b : Binding) (f : Frame) : Verdict :=
  if f.payload.length ≠ payloadLength e then .malformed
  else if f.sender ≠ b.sender then .intruder
  else if x.repeats f.seq then .duplicate
  else .accepted

/-- The gap that a sequence leaves after the last accepted one, in FRESH or LATE (R24). -/
def Entry.gap (x : Entry) (seq : Seq) : Nat :=
  match x.usable, x.lastSeq with
  | true, some last => (seq - last - 1).toNat
  | _, _ => 0

/-- The entry after an accepted frame: stages 1 to 4 of R25 that concern the entry itself. -/
def Entry.accept (x : Entry) (e : EntryName) (f : Frame) (now : Nat) : Entry :=
  let (fields, clamps) := decodePayload e f.payload
  { x with
    freshness := .fresh
    lastSeq := some f.seq
    fields := fields
    acceptedAt := some now
    heard := true
    accepted := bump x.accepted
    missed := addCount x.missed (x.gap f.seq)
    clampedFields := addCount x.clampedFields clamps }

/-- The state with one entry replaced. -/
def State.setEntry (s : State) (e : EntryName) (x : Entry) : State := s.setTopics (s.topics.set e x)

/-! ### Arrivals -/

/-- An arrival announced to the blocks that wait on the entry, in the order of the table (R34; log entry
9). -/
def State.announce (s : State) (e : EntryName) : State :=
  match e with
  | .inertialRates => s.estimate .a
  | .inertialLean => s.podArrival
  | .wheelSpeeds => s.latchArrival.windowArrival
  | .suspensionState => s.recomputeIfOpen
  | .dashSelect => s.dashArrival
  | .engineState => (s.echoArrival .engine).testAdoption
  | .brakeState => (s.echoArrival .brake).absArrival
  | .inertialAccel => s

/-- Stages 4 and 5 of an acceptance that concern other blocks: the heard-mark notice and SPEED_LOST (R25,
R31, R35). -/
def State.noticeAccepted (s : State) (e : EntryName) (before : Entry) : State :=
  let t := if before.heard then s else s.heardNotice
  if before.freshness = .stale ∧ e = .wheelSpeeds then t.setCondition .speedLost false else t

/-- An entry accepts a frame: the stages of R25. -/
def State.acceptFrame (s : State) (e : EntryName) (f : Frame) : State :=
  let x := s.topics.get e
  ((s.setEntry e (x.accept e f s.now)).noticeAccepted e x).announce e

/-- An intruder is discarded and counted; the fourth of an entry reports TOPIC_CONTENTION (R23). -/
def State.discardIntruder (s : State) (e : EntryName) : State :=
  let x := s.topics.get e
  let t := s.setEntry e { x with intruders := bump255 x.intruders }
  if x.intruders = 3 then t.setCondition .topicContention true else t

/-- A frame offered to an entry (R22..R25). -/
def State.offerEntry (s : State) (e : EntryName) (f : Frame) : State :=
  let x := s.topics.get e
  match x.judge e (s.binding e) f with
  | .malformed => s.setEntry e { x with malformed := bump x.malformed }
  | .intruder => s.discardIntruder e
  | .duplicate => s.setEntry e { x with duplicates := bump x.duplicates }
  | .accepted => s.acceptFrame e f

/-- The entries that the running profile binds to a topic. R19 offers the frame to each of them and gives no order
among them; THE MODEL'S CHOICE (log entry 9) is the order of the table of R19. -/
def State.boundEntries (s : State) (topic : Nat) : List EntryName :=
  EntryName.all.filter fun e => (s.binding e).topic == topic

/-- A frame offered to each of some entries in turn (R19; log entry 9 for the order). -/
def State.offerEntries (s : State) (f : Frame) : List EntryName → State
  | [] => s
  | e :: rest => State.offerEntries (s.offerEntry e f) f rest

/-! ### Freshness -/

/-- The deadline expiry of an entry in FRESH (R30). -/
def Entry.deadline (x : Entry) : Entry :=
  { x with freshness := .late, lateEpisodes := bump x.lateEpisodes }

/-- The stale expiry of an entry in LATE (R31). -/
def Entry.stale (x : Entry) : Entry :=
  { x with freshness := .stale, staleEpisodes := bump x.staleEpisodes }

/-- The STALE notices of an entry (R31). -/
def State.staleNotice (s : State) (e : EntryName) : State :=
  match e with
  | .inertialRates => s.estimate .c
  | .suspensionState => s.recomputeIfOpen
  | .dashSelect => s.dashStale
  | .engineState => s.consumerStale .engine
  | .brakeState => s.consumerStale .brake
  | .wheelSpeeds => s.setCondition .speedLost true
  | .inertialAccel => s
  | .inertialLean => s

/-- The moment of an entry's deadline expiry, while it is FRESH (R29, R30). -/
def State.deadlineDue (s : State) (e : EntryName) : Option Nat :=
  let x := s.topics.get e
  match x.freshness, x.acceptedAt with
  | .fresh, some t => some (t + 10 * (s.binding e).deadline)
  | _, _ => none

/-- The moment of an entry's stale expiry, while it is LATE (R29, R31). -/
def State.staleDue (s : State) (e : EntryName) : Option Nat :=
  let x := s.topics.get e
  match x.freshness, x.acceptedAt with
  | .late, some t => some (t + 30 * (s.binding e).deadline)
  | _, _ => none

/-! ### The chassis reset -/

/-- A valid control reset announced to the five blocks, in the order of R38 (log entry 9). -/
def State.chassisReset (s : State) : State :=
  s.resetEstimator.resetGrip.resetDrive.resetBrake.resetPublisher

/-- A topic 10 frame at the chassis-reset handling (R37). -/
def State.resetMessage (s : State) (f : Frame) : State :=
  if f.payload.length = 1 ∧ f.sender = (s.binding .dashSelect).sender ∧ payloadU8 f.payload 0 = 1 then
    (s.setTopics { s.topics with announcedResets := bump s.topics.announcedResets }).chassisReset
  else s.setTopics { s.topics with ignoredResets := bump s.topics.ignoredResets }

/-! ### The receive path -/

/-- A checked frame handed over by its topic, by the first case that fits (R5). -/
def State.handOver (s : State) (f : Frame) : State :=
  match s.boundEntries f.topic with
  | e :: rest => s.offerEntries f (e :: rest)
  | [] =>
    if f.topic = 10 then s.resetMessage f
    else if f.topic = 950 then s.serve f.payload
    else
      s.setLink
        { s.link with counters := { s.link.counters with unbound := bump s.link.counters.unbound } }

/-- What is driven into the acknowledgement slot: nothing unless the link is JOINED (R5). -/
def Link.slotFor (l : Link) (intact : Bool) : SlotDrive :=
  if l.state = .joined then (if intact then .accept else .reject) else .nothing

/-- The link with a drive of the acknowledgement slot. -/
def State.driveSlot (s : State) (d : SlotDrive) : State := s.setLink { s.link with slotDrive := d }

/-- A frame discarded for its header: counted, no slot driven, the part waits for an idle medium (R4). -/
def State.discardHeader (s : State) : State :=
  s.setLink
    { s.link with
      slotDrive := .nothing
      awaitingIdle := true
      counters := { s.link.counters with headerErrors := bump s.link.counters.headerErrors } }

/-- A frame with a failed payload check: counted, rejected when JOINED (R5). -/
def State.discardPayload (s : State) : State :=
  s.setLink
    { s.link with
      slotDrive := s.link.slotFor false
      counters := { s.link.counters with payloadErrors := bump s.link.counters.payloadErrors } }

/-- The clash test of a frame whose header check passed (R6). -/
def State.clashTest (s : State) (h : Heard) : State :=
  if h.sender? = some s.profile.ownStation then s.setCondition .stationClash true else s

/-- A heard frame after the clash test (R4, R5). -/
def State.receive (s : State) (h : Heard) : State :=
  match h with
  | .badHeader => s.discardHeader
  | .badLength _ => s.discardHeader
  | .badPayload _ => s.discardPayload
  | .good f => (s.driveSlot (s.link.slotFor true)).handOver f

/-- The part hears frames: it is active, sends none itself and follows the medium (R4, R8, R18). -/
def Link.hears (l : Link) : Bool := l.state != .inactive && l.wire.isNone && !l.awaitingIdle

/-- A whole frame on the medium (R4, R5, R6). -/
def State.hearFrame (s : State) (bits : List Level) : State :=
  if s.link.hears then
    let h := parseFrame bits
    (s.clashTest h).receive h
  else s

end Sys2Proof.Machine
end

