-- ==== Sys2Proof/Machine/Loader.lean ====
section
/-! DEFINITION. The Profile Loader (R180..R183): the power-on sequence, the judgement of the image, and the
completion of the load. -/

namespace Sys2Proof.Machine

/-- The check code that an image stores in bytes 254..255 (R181). -/
def storedCode (m : Memory) : Nat := imageU16 m 254

/-- The image is rejected: the codes differ, all 256 bytes read as 0xFF, or the format is not 1 (R181). -/
def imageRejected (m : Memory) : Bool :=
  (imageCode m).toNat != storedCode m || (m.readBytes 0 256).all (· == erasedByte) || imageU8 m 0 != 1

/-- The running profile that an image gives (R181, R182). -/
def profileOf (m : Memory) : Profile :=
  if imageRejected m then fallbackProfile else (readProfile m).clampFields

/-- Some field of an accepted image was clamped or replaced (R173, R182). -/
def imageClamped (m : Memory) : Bool := !imageRejected m && (readProfile m).clampFields != readProfile m

/-- The power-on sequence starts afresh (R180). A page being programmed is left as the memory has it (R189;
log entry 3). -/
def State.powerOn (s : State) : State :=
  let t :=
    match s.responder.store with
    | some ⟨.pageBurst p, _, _, _⟩ => s.spoilPage p
    | some ⟨.pageWait p _, _, _, _⟩ => s.spoilPage p
    | _ => s
  State.poweredOn t.memory t.pending t.draws

/-- The judgement fixes the running profile and the pending image, and reports the profile conditions (R173,
R181, R182, R183). -/
def State.fixProfile (s : State) : State :=
  let image := s.loader.readImage
  let loader : Loader := ⟨.running, image, profileOf image, imageRejected image, none⟩
  (((s.setLoader loader).setResponder { s.responder with pendingImage := image }).setCondition
    .profileFallback (imageRejected image)).setCondition .profileClamped (imageClamped image)

/-- The timers that start at the completion of the load (R96, R103, R129, R151, R178, R184). -/
def State.startTimers (s : State) : State :=
  let s := s.setDrive { s.drive with stepDue := s.restarted stepPeriod }
  let s := s.setBrake { s.brake with stepDue := s.restarted stepPeriod }
  let s := s.setGrip { s.grip with reliefEnds := s.restarted reliefPeriod }
  let s := s.setPublisher { s.publisher with gripStateDue := s.restarted gripStatePeriod }
  let s := s.setMonitor { s.monitor with ltStatusDue := s.restarted ltStatusPeriod }
  s.setResponder { s.responder with windowEnds := s.restarted windowTime }

/-- The completion of the load: the profile is fixed, the link enters SILENT, the mode record takes its first
value, and then the blocks start: the first load record, the timers, the first LT_STATUS and the window
(R183). Time is counted from here. -/
def State.loadComplete (s : State) : State :=
  let t := (s.setNow 0).fixProfile.enterSilent
  ((t.setSelector (t.selector.startMode t.profile)).recomputeLoad.startTimers).offerLtStatus

end Sys2Proof.Machine
end

