-- ==== Sys2Proof/Machine/LinkCommands.lean ====
section
/-! DEFINITION. The meanings of the link commands: frames heard and sent, and the medium going idle. -/

namespace Sys2Proof.Machine

/-- FRAME_HEARD (R3..R6, R18, R192 and all that a handed-over frame starts). -/
def execFrameHeard (after : Nat) (bits : List Level) (s : State) : Host.Outcome State Fault Refusal :=
  .next ((s.elapse after).hearFrame bits)

/-- FRAME_START (R7). -/
def execFrameStart (after : Nat) (s : State) : Host.Outcome State Fault Refusal :=
  .next (s.elapse after).startFrame

/-- ARBITRATION_LOSS (R7, R12). -/
def execArbitrationLoss (after key : Nat) (s : State) : Host.Outcome State Fault Refusal :=
  .next ((s.elapse after).arbitrate key)

/-- COLLIDED (R6, R8, R14). -/
def execCollided (after : Nat) (s : State) : Host.Outcome State Fault Refusal :=
  .next (s.elapse after).collide

/-- ACK_SLOT_READ (R9, R14, R150, R153). -/
def execAckSlotRead (after : Nat) (first second : Level) (s : State) : Host.Outcome State Fault Refusal :=
  .next ((s.elapse after).slotRead first second)

/-- MEDIUM_IDLE: a part that had given up following a frame takes part in the link again (R4, R8, R192). -/
def execMediumIdle (after : Nat) (s : State) : Host.Outcome State Fault Refusal :=
  .next ((s.elapse after).setLink { s.link with awaitingIdle := false })

end Sys2Proof.Machine
end

