-- ==== Sys2Proof/Machine/LoaderCommands.lean ====
section
/-! DEFINITION. The meanings of the commands of the power-on sequence and of the profile store. -/

namespace Sys2Proof.Machine

/-- POWER_ON (R180). -/
def execPowerOn (s : State) : Host.Outcome State Fault Refusal := .next s.powerOn

/-- PROFILE_LOAD_COMPLETE: the fourth burst of the load ends and the load completes (R180..R183). It comes
only after the first three. -/
def execProfileLoadComplete (min : Option (List Byte)) (s : State) : Host.Outcome State Fault Refusal :=
  match s.loader.phase with
  | .loading 3 => .next (s.takeBurst 3 min).loadComplete
  | _ => .next s

/-- READ_BURST_END: one of the first three bursts of the load, or of a store's read-back, ends; the next one
follows (R180, R188). -/
def execReadBurstEnd (after : Nat) (min : Option (List Byte)) (s : State) :
    Host.Outcome State Fault Refusal :=
  let s := s.elapse after
  match s.loader.phase, s.responder.store with
  | .loading n, _ =>
    if n < 3 then
      let t := s.takeBurst n min
      .next (t.setLoader { t.loader with phase := .loading (n + 1) })
    else .next s
  | .running, some st =>
    match st.stage with
    | .readBack n => if n < 3 then .next ((s.takeBurst n min).setStage st (.readBack (n + 1))) else .next s
    | _ => .next s
  | .running, none => .next s

/-- STORE_PAGE_BURST_END (R188). -/
def execStorePageBurstEnd (after : Nat) (s : State) : Host.Outcome State Fault Refusal :=
  let s := s.elapse after
  match s.responder.store with
  | some st =>
    match st.stage with
    | .pageBurst p => .next (s.pageBurstEnded st p)
    | _ => .next s
  | none => .next s

/-- STORE_PAGE_DONE: a report within 15 ms of the end of the burst, 15 ms included (R188). -/
def execStorePageDone (after : Nat) (s : State) : Host.Outcome State Fault Refusal :=
  let s := s.elapse after
  match s.responder.store with
  | some st =>
    match st.stage with
    | .pageWait p t => if s.now ≤ t + pageWait then .next (s.pageDone st p) else .next s
    | _ => .next s
  | none => .next s

/-- STORE_PAGE_TIMEOUT: the store ends as failed (R188). What the page then holds is free (log entry 3). -/
def execStorePageTimeout (s : State) : Host.Outcome State Fault Refusal :=
  match s.responder.store with
  | some st =>
    match st.stage with
    | .pageWait p t => .next (((s.until (t + pageWait)).spoilPage p).finishStore st false)
    | _ => .next s
  | none => .next s

/-- STORE_READBACK_COMPLETE: the fourth read-back burst ends, the image is compared and the store completes
(R188). -/
def execStoreReadbackComplete (after : Nat) (min : Option (List Byte)) (s : State) :
    Host.Outcome State Fault Refusal :=
  let s := s.elapse after
  match s.responder.store with
  | some st =>
    match st.stage with
    | .readBack 3 =>
      let t := s.takeBurst 3 min
      .next (t.finishStore st t.readBackAgrees)
    | _ => .next s
  | none => .next s

end Sys2Proof.Machine
end

