-- ==== Sys2Proof/Machine/StepCommands.lean ====
section
/-! DEFINITION. The meanings of the two 5 ms steps. -/

namespace Sys2Proof.Machine

/-- REGULATION_STEP (R103..R123): the regulation timer restarts and one regulation step runs. -/
def execRegulationStep (s : State) : Host.Outcome State Fault Refusal :=
  match s.drive.stepDue with
  | some t =>
    let u := s.until t
    .next (u.setDrive { u.drive with stepDue := u.restarted stepPeriod }).regulationStep
  | none => .next s

/-- BRAKE_STEP (R129..R139): the brake step timer restarts and one brake step runs. -/
def execBrakeStep (s : State) : Host.Outcome State Fault Refusal :=
  match s.brake.stepDue with
  | some t =>
    let u := s.until t
    .next (u.setBrake { u.brake with stepDue := u.restarted stepPeriod }).brakeStep
  | none => .next s

end Sys2Proof.Machine
end

