-- ==== Sys2Proof/Machine/TimerCommands.lean ====
section
/-! DEFINITION. The meanings of the timer commands. An expiry takes place at the moment its timer runs out; an
expiry of a timer that does not run changes nothing (log entries 1 and 8). -/

namespace Sys2Proof.Machine

/-- MUTE_EXPIRY (R17). -/
def execMuteExpiry (s : State) : Host.Outcome State Fault Refusal :=
  match s.link.state, s.link.muteEnds with
  | .muted, some t => .next (s.until t).muteExpired
  | _, _ => .next s

/-- JOIN_WAIT_EXPIRY (R16). -/
def execJoinWaitExpiry (s : State) : Host.Outcome State Fault Refusal :=
  match s.link.state, s.link.joinWaitEnds with
  | .silent, some t => .next (s.until t).joinWaitExpired
  | _, _ => .next s

/-- DEADLINE_EXPIRY (R30). -/
def execDeadlineExpiry (e : EntryName) (s : State) : Host.Outcome State Fault Refusal :=
  match s.deadlineDue e with
  | some t => .next ((s.until t).setEntry e (s.topics.get e).deadline)
  | none => .next s

/-- STALE_EXPIRY (R31). -/
def execStaleExpiry (e : EntryName) (s : State) : Host.Outcome State Fault Refusal :=
  match s.staleDue e with
  | some t => .next (((s.until t).setEntry e (s.topics.get e).stale).staleNotice e)
  | none => .next s

/-- AT_REST_EXPIRY (R46, R47). -/
def execAtRestExpiry (s : State) : Host.Outcome State Fault Refusal :=
  match s.selector.atRestEnds with
  | some t => .next (s.until t).atRestExpired
  | none => .next s

/-- BASE_VALIDITY_EXPIRY (R56). -/
def execBaseValidityExpiry (s : State) : Host.Outcome State Fault Refusal :=
  match s.estimator.base with
  | some b => .next ((s.until (b.madeAt + baseValidity)).setEstimator { s.estimator with base := none })
  | none => .next s

/-- RELIEF_EXPIRY (R96). -/
def execReliefExpiry (s : State) : Host.Outcome State Fault Refusal :=
  match s.grip.reliefEnds with
  | some t =>
    let u := s.until t
    .next (u.setGrip { u.grip.relieve with reliefEnds := u.restarted reliefPeriod })
  | none => .next s

/-- GRIP_STATE (R151). -/
def execGripState (s : State) : Host.Outcome State Fault Refusal :=
  match s.publisher.gripStateDue with
  | some t =>
    let u := s.until t
    let v := u.setPublisher { u.publisher with gripStateDue := u.restarted gripStatePeriod }
    .next (v.offer .gripState v.gripStatePayload)
  | none => .next s

/-- ECHO_DEADLINE_EXPIRY (R155). -/
def execEchoDeadlineExpiry (c : Consumer) (s : State) : Host.Outcome State Fault Refusal :=
  match (s.publisher.track c).echoes with
  | e :: _ => .next ((s.until (e.deliveredAt + echoDeadline)).setTrack c (s.publisher.track c).deadline)
  | [] => .next s

/-- ASSERTION_END_EXPIRY (R163). -/
def execAssertionEndExpiry (s : State) : Host.Outcome State Fault Refusal :=
  match s.generator.assertionEnds with
  | some t => .next ((s.until t).setGenerator s.generator.assertionEnd)
  | none => .next s

/-- CUT_PERIOD_EXPIRY (R163, R167). -/
def execCutPeriodExpiry (s : State) : Host.Outcome State Fault Refusal :=
  match s.generator.run with
  | some r =>
    let u := s.until (r.ends s.profile.cutPeriod)
    let g := u.generator.periodEnd u.now s.profile.cutPeriod
    .next ((u.setGenerator g).tellCut g.cutActive)
  | none => .next s

/-- LT_STATUS (R178). -/
def execLtStatus (s : State) : Host.Outcome State Fault Refusal :=
  match s.monitor.ltStatusDue with
  | some t =>
    let u := s.until t
    .next (u.setMonitor { u.monitor with ltStatusDue := u.restarted ltStatusPeriod }).offerLtStatus
  | none => .next s

/-- WINDOW_EXPIRY (R184). -/
def execWindowExpiry (s : State) : Host.Outcome State Fault Refusal :=
  match s.responder.windowEnds with
  | some t => .next (s.until t).closeWindow
  | none => .next s

end Sys2Proof.Machine
end

