-- ==== Sys2Proof/Machine/Dispatch.lean ====
section
/-! DEFINITION. One command, its effect on everything but the queue: one arm per constructor. -/

namespace Sys2Proof.Machine

def exec (i : Instr) (s : State) : Host.Outcome State Fault Refusal :=
  match i with
  | .powerOn => Sys2Proof.Machine.execPowerOn s
  | .profileLoadComplete min => Sys2Proof.Machine.execProfileLoadComplete min s
  | .frameHeard after bits => Sys2Proof.Machine.execFrameHeard after bits s
  | .frameStart after => Sys2Proof.Machine.execFrameStart after s
  | .arbitrationLoss after key => Sys2Proof.Machine.execArbitrationLoss after key s
  | .collided after => Sys2Proof.Machine.execCollided after s
  | .ackSlotRead after first second => Sys2Proof.Machine.execAckSlotRead after first second s
  | .muteExpiry => Sys2Proof.Machine.execMuteExpiry s
  | .joinWaitExpiry => Sys2Proof.Machine.execJoinWaitExpiry s
  | .deadlineExpiry e => Sys2Proof.Machine.execDeadlineExpiry e s
  | .staleExpiry e => Sys2Proof.Machine.execStaleExpiry e s
  | .atRestExpiry => Sys2Proof.Machine.execAtRestExpiry s
  | .baseValidityExpiry => Sys2Proof.Machine.execBaseValidityExpiry s
  | .reliefExpiry => Sys2Proof.Machine.execReliefExpiry s
  | .regulationStep => Sys2Proof.Machine.execRegulationStep s
  | .brakeStep => Sys2Proof.Machine.execBrakeStep s
  | .gripState => Sys2Proof.Machine.execGripState s
  | .echoDeadlineExpiry c => Sys2Proof.Machine.execEchoDeadlineExpiry c s
  | .assertionEndExpiry => Sys2Proof.Machine.execAssertionEndExpiry s
  | .cutPeriodExpiry => Sys2Proof.Machine.execCutPeriodExpiry s
  | .ltStatus => Sys2Proof.Machine.execLtStatus s
  | .windowExpiry => Sys2Proof.Machine.execWindowExpiry s
  | .storePageBurstEnd after => Sys2Proof.Machine.execStorePageBurstEnd after s
  | .storePageDone after => Sys2Proof.Machine.execStorePageDone after s
  | .storePageTimeout => Sys2Proof.Machine.execStorePageTimeout s
  | .storeReadbackComplete after min => Sys2Proof.Machine.execStoreReadbackComplete after min s
  | .mediumIdle after => Sys2Proof.Machine.execMediumIdle after s
  | .readBurstEnd after min => Sys2Proof.Machine.execReadBurstEnd after min s

end Sys2Proof.Machine
end

