-- ==== Sys2Proof/Machine/Timers.lean ====
section
/-! DEFINITION. The running timers of the part and the one that is due: what an idle part does of itself (log
entry 1). -/

namespace Sys2Proof.Machine

/-- A running timer: the moment it runs out and its expiry. -/
abbrev DueTimer := Nat × Instr

/-- A timer as a list: empty when it is stopped. -/
def dueTimer (timer : Option Nat) (c : Instr) : List DueTimer :=
  match timer with
  | some t => [(t, c)]
  | none => []

/-- The mute timer or the join-wait timer, in the link state in which it runs (R15, R17). -/
def State.linkTimers (s : State) : List DueTimer :=
  match s.link.state with
  | .muted => dueTimer s.link.muteEnds .muteExpiry
  | .silent => dueTimer s.link.joinWaitEnds .joinWaitExpiry
  | _ => []

/-- The deadlines and stale expiries of the entries (R29). -/
def State.entryTimers (s : State) : List DueTimer :=
  (EntryName.all.flatMap fun e => dueTimer (s.deadlineDue e) (.deadlineExpiry e)) ++
    EntryName.all.flatMap fun e => dueTimer (s.staleDue e) (.staleExpiry e)

/-- The deadline of the oldest entry of an echo list (R155). -/
def State.echoTimer (s : State) (c : Consumer) : List DueTimer :=
  dueTimer ((s.publisher.track c).echoes.head?.map fun e => e.deliveredAt + echoDeadline)
    (.echoDeadlineExpiry c)

/-- The wait for a page-done report, which runs out as a timeout once 15 ms have passed (R188). -/
def State.pageTimer (s : State) : List DueTimer :=
  match s.responder.store with
  | some ⟨.pageWait _ t, _, _, _⟩ => [(t + pageWait, .storePageTimeout)]
  | _ => []

/-- The running timers, in the order of the table of operations and events. -/
def State.runningTimers (s : State) : List DueTimer :=
  s.linkTimers ++ s.entryTimers ++ dueTimer s.selector.atRestEnds .atRestExpiry ++
    dueTimer (s.estimator.base.map fun b => b.madeAt + baseValidity) .baseValidityExpiry ++
    dueTimer s.grip.reliefEnds .reliefExpiry ++ dueTimer s.drive.stepDue .regulationStep ++
    dueTimer s.brake.stepDue .brakeStep ++ dueTimer s.publisher.gripStateDue .gripState ++
    s.echoTimer .engine ++ s.echoTimer .brake ++
    dueTimer s.generator.assertionEnds .assertionEndExpiry ++
    dueTimer (s.generator.run.map fun r => r.ends s.profile.cutPeriod) .cutPeriodExpiry ++
    dueTimer s.monitor.ltStatusDue .ltStatus ++ dueTimer s.responder.windowEnds .windowExpiry ++
    s.pageTimer

/-- The earliest of some timers, the first one on a tie. -/
def earliest : List DueTimer → Option DueTimer
  | [] => none
  | d :: rest =>
    match earliest rest with
    | none => some d
    | some e => if d.1 ≤ e.1 then some d else some e

/-- The expiry that is due, if any. -/
def State.dueCommand (s : State) : Option Instr :=
  match earliest s.runningTimers with
  | some d => if d.1 ≤ s.now then some d.2 else none
  | none => none

end Sys2Proof.Machine
end

