-- ==== Sys2Proof/Machine/Step.lean ====
section
/-! DEFINITION. One step of the part: the command in front of the queue; on an empty queue the expiry that is
due, or a tenth of a millisecond in which nothing happens (DESIGN CHOICE, log entry 1). -/

namespace Sys2Proof.Machine

/-- What the part does when no command waits (log entry 1). -/
def idle (s : State) : Host.Outcome State Fault Refusal :=
  match s.dueCommand with
  | some c => exec c s
  | none => .next (s.elapse 1)

/-- One step. -/
def step (s : State) : Host.Outcome State Fault Refusal :=
  match s.pending with
  | c :: rest => exec c (s.setPending rest)
  | [] => idle s

/-- The state with the command that a word spells put in front of its queue; the table spells none. -/
def State.withFetchWord (s : State) (nbits w : Nat) : State :=
  match decodeTableWord nbits w with
  | some c => s.setPending (c :: s.pending)
  | none => s

end Sys2Proof.Machine
end

