-- ==== Sys2Proof/Safety.lean ====
section
/-! DEFINITION. What counts as a safe state and a safe step, in the terms the statements use: the parts of the
state and their frames, the values after power-on, and the invariants of the blocks. -/

namespace Sys2Proof.Machine

/-- A step that answers a next state; a fault or a refusal does not. -/
def completes (o : Host.Outcome State Fault Refusal) : Prop := ∃ t, o = .next t

/-! ### Frames -/

/-- The parts of the state: the model's own fields, the serial memory and the blocks. -/
inductive Part where
  | now
  | pending
  | draws
  | memory
  | loader
  | link
  | topics
  | selector
  | estimator
  | grip
  | drive
  | brake
  | publisher
  | generator
  | monitor
  | responder
deriving DecidableEq, Repr

/-- Two states agree on a part. -/
def State.agreesOn (s t : State) : Part → Prop
  | .now => t.now = s.now
  | .pending => t.pending = s.pending
  | .draws => t.draws = s.draws
  | .memory => t.memory = s.memory
  | .loader => t.loader = s.loader
  | .link => t.link = s.link
  | .topics => t.topics = s.topics
  | .selector => t.selector = s.selector
  | .estimator => t.estimator = s.estimator
  | .grip => t.grip = s.grip
  | .drive => t.drive = s.drive
  | .brake => t.brake = s.brake
  | .publisher => t.publisher = s.publisher
  | .generator => t.generator = s.generator
  | .monitor => t.monitor = s.monitor
  | .responder => t.responder = s.responder

/-- From `s` to `t` nothing changes but the parts named. -/
def State.onlyChanges (s t : State) (ps : List Part) : Prop := ∀ p : Part, p ∉ ps → s.agreesOn t p

/-- From `l` to `l'` only offers have come to the link: the queue, the sequences and the superseded and
dropped counts may differ, nothing else. -/
def Link.onlyOffers (l l' : Link) : Prop :=
  l'.state = l.state ∧ l'.wire = l.wire ∧ l'.failures = l.failures ∧ l'.joinWaitEnds = l.joinWaitEnds ∧
    l'.muteEnds = l.muteEnds ∧ l'.awaitingIdle = l.awaitingIdle ∧ l'.slotDrive = l.slotDrive ∧
    l'.counters =
      { l.counters with superseded := l'.counters.superseded, dropped := l'.counters.dropped }

/-- From `p` to `p'` frames have at most been forgotten or awaited: tracks and timer are as they were. -/
def Publisher.onlyAwaits (p p' : Publisher) : Prop :=
  p'.engine = p.engine ∧ p'.brake = p.brake ∧ p'.gripStateDue = p.gripStateDue

/-- From `m` to `m'` the lamp may have been brought up to date, nothing else. -/
def Monitor.onlyLamp (m m' : Monitor) : Prop :=
  m' = { m with lamp := m'.lamp, lampChanges := m'.lampChanges, ltStatusOffers := m'.ltStatusOffers }

/-- Fault `f` ends active or not, as `b` says, and every other fault keeps its marks and count. -/
def FaultSet.onlyFault (a b : FaultSet) (f : Fault12) (active : Bool) : Prop :=
  (b.get f).active = active ∧ ∀ g, g ≠ f → b.get g = a.get g

/-- Two entries agree but in their counts. -/
def Entry.onlyCounts (x y : Entry) : Prop :=
  y.freshness = x.freshness ∧ y.lastSeq = x.lastSeq ∧ y.fields = x.fields ∧ y.acceptedAt = x.acceptedAt ∧
    y.heard = x.heard

/-! ### The values after power-on -/

/-- Every block holds the values the manual gives for power-on (R18, R20, R37, R40, R73, R99, R104, R130, R160,
R168, R172, R175, R176, R191), the loader and the model's own fields apart. The rider request, mode and offset
before the load are the model's (log entry 7). -/
def State.blocksAtPowerOn (s : State) : Prop :=
  s.link = ⟨.inactive, [], none, ⟨0, 0, 0, 0, 0⟩, 0, none, none, ⟨0, 0, 0, 0, 0, 0, 0, 0, 0, 0⟩, false,
    .nothing⟩ ∧
  (∀ e, s.topics.get e = ⟨.never, none, [], none, false, 0, 0, 0, 0, 0, 0, 0, 0⟩) ∧
  s.topics.announcedResets = 0 ∧ s.topics.ignoredResets = 0 ∧
  s.selector = ⟨none, .opened, none, 0, .wet, 0, none, 0, 0, 0, 0⟩ ∧
  s.estimator = ⟨none, none, 0, 0, 0, 0, 0⟩ ∧
  s.grip = ⟨none, List.replicate 14 ⟨0, false⟩, none, 0, 0, 0, 0, 0, 0⟩ ∧
  s.drive = ⟨.passive, .none, none, 0, none, none, none, 0, none, 0, 0, 0, 0, 0, none,
    none, 0⟩ ∧
  s.brake = ⟨⟨.passive, none, false, none, none, 0, 0, 0, 0, 0, 0, none, none, false⟩,
    ⟨.passive, none, false, none, none, 0, 0, 0, 0, 0, 0, none, none, false⟩, none⟩ ∧
  (∀ c, s.publisher.track c = ⟨[], .following, 0, 0, 0, 0, 0, 0, 0, 0, 0, 0⟩) ∧
  s.publisher.awaited = [] ∧ s.publisher.gripStateDue = none ∧
  s.generator = ⟨none, 0, .none, none, false, 0, 0, 0⟩ ∧
  (∀ f, s.monitor.faults.get f = ⟨false, false, 0⟩) ∧
  s.monitor.lamp = .off ∧ s.monitor.driveState = .passive ∧ s.monitor.drivePath = .none ∧
  s.monitor.frontWheel = .passive ∧ s.monitor.rearWheel = .passive ∧ s.monitor.regulationCut = false ∧
  s.monitor.ltStatusDue = none ∧ s.monitor.lampChanges = 0 ∧ s.monitor.clearRequests = 0 ∧
  s.monitor.ltStatusOffers = 0 ∧
  s.responder.windowEnds = none ∧ s.responder.store = none ∧ s.responder.ignoredRequests = 0 ∧
  s.responder.replies = 0 ∧ s.responder.stores = 0 ∧ s.responder.failedStores = 0

/-- The power-on sequence stands at its beginning: every block at its power-on values, no read burst ended
(R180). -/
def State.atPowerOn (s : State) : Prop := s.blocksAtPowerOn ∧ s.loader.phase = .loading 0

/-- The page whose programming is under way, if any (R188). -/
def State.pageInProgress (s : State) : Option Nat :=
  match s.responder.store with
  | some ⟨.pageBurst p, _, _, _⟩ => some p
  | some ⟨.pageWait p _, _, _, _⟩ => some p
  | _ => none

/-- Two stores of bytes agree outside page `p` of 64 bytes. -/
def agreeOutsidePage (m m' : Memory) (p : Nat) : Prop :=
  ∀ a, a < 64 * p ∨ 64 * p + 64 ≤ a → m'.read a = m.read a

/-- Page `p` of `m'` holds what a burst carried: the bytes of MIN, or the page of the serial memory (R180, log
entry 2). -/
def pageFromBurst (memory m' : Memory) (p : Nat) (min : Option (List Byte)) : Prop :=
  ∀ i, i < 64 →
    m'.read (64 * p + i) =
      match min with
      | none => memory.read (64 * p + i)
      | some bytes => bytes.getD i erasedByte

/-! ### The invariants -/

/-- The three byte stores are in their canonical form. -/
def State.storesWf (s : State) : Prop :=
  s.memory.wf ∧ s.loader.readImage.wf ∧ s.responder.pendingImage.wf

/-- A number lies within two bounds. -/
def within (lo hi x : Nat) : Prop := lo ≤ x ∧ x ≤ hi

/-- The mode profile lies in the ranges of R48 and meets the two constraints of R49. -/
def ModeProfile.inRange (p : ModeProfile) : Prop :=
  within 512 1024 p.gripScale ∧ within 512 1536 p.slipScale ∧ within 32 512 p.cutFraction ∧
    within 1 200 p.trackingRise ∧ within 1 200 p.recoveryRise ∧ within 1 100 p.holdSteps ∧
    p.cutPermission ≤ 1 ∧ p.driveFloor ≤ 500 ∧ within 100 3000 p.driveMax ∧ within 1 200 p.brakeRise ∧
    within 1 200 p.brakeFall ∧ p.frontFloor ≤ 2000 ∧ p.rearFloor ≤ 2000 ∧
    p.recoveryRise ≤ p.trackingRise ∧ p.driveFloor ≤ p.driveMax

/-- The running profile lies in the ranges of R41, R48, R49, R67, R83, R120, R160 and R182. -/
def Profile.inRange (p : Profile) : Prop :=
  p.ownStation ≤ 31 ∧ p.serviceCode ≤ 255 ∧ within 1 4 p.defaultMode ∧ p.assumedLean ≤ 6500 ∧
    p.blindSlots ≤ 8 ∧ within 16 48 p.cutPeriod ∧ p.cutPeriod % 8 = 0 ∧ within 150 500 p.baseMass ∧
    within 1200 2000 p.wheelbase ∧ within 250 400 p.rollingRadius ∧ within 10 200 p.frontGain ∧
    within 10 200 p.rearGain ∧ p.loadTable.length = 4 ∧
    (∀ r ∈ p.loadTable, r.added ≤ 400 ∧ within 300 1200 r.height ∧ within 256 768 r.rearShare) ∧
    p.gripMap.length = 14 ∧
    (∀ r ∈ p.gripMap, within 205 1536 r.muBase ∧ within 16 512 r.slipTarget) ∧
    (∀ m, (p.modes.get m).inRange) ∧
    (∀ e, (p.bindings.get e).topic ≤ 1023 ∧ (p.bindings.get e).sender ≤ 31 ∧
      within 2 1000 (p.bindings.get e).deadline)

/-- The link controller is in order: at most one waiting frame of a topic, in topic order, at most four; a
frame on the wire only while JOINED; 16 failures only while MUTED; the two timers run in their states; nothing
waits while MUTED or inactive (R7, R10, R11, R14..R18). -/
def Link.inOrder (l : Link) : Prop :=
  l.queue.Pairwise (fun f g => f.topic.number < g.topic.number) ∧ l.queue.length ≤ 4 ∧
    l.failures ≤ 16 ∧ (l.failures = 16 ↔ l.state = .muted) ∧
    (l.wire.isSome = true → l.state = .joined) ∧ (l.muteEnds.isSome = true ↔ l.state = .muted) ∧
    (l.joinWaitEnds.isSome = true ↔ l.state = .silent) ∧
    (l.state = .muted ∨ l.state = .inactive → l.queue = [])

/-- The link is in order, and inactive until the profile load completes (R18). -/
def State.linkInOrder (s : State) : Prop :=
  s.link.inOrder ∧ (s.loader.phase ≠ .running → s.link.state = .inactive)

/-- The ranges of the decoded fields that a form gives (R26, R28). -/
def FieldForm.ranges : FieldForm → List (Int × Int)
  | .u16 hi => [(0, hi)]
  | .i16 bound => [(-(bound : Int), bound)]
  | .u8 lo hi => [(lo, hi)]
  | .echo => [(0, 15)]
  | .absFlags => [(0, 1), (0, 1)]
  | .offset => [(-2, 2)]

/-- The decoded fields of an entry are those of R19, each absent or in its range of R26. -/
def fieldsInRange (e : EntryName) (fields : List (Option Int)) : Prop :=
  List.Forall₂ (fun (o : Option Int) (r : Int × Int) => ∀ v, o = some v → r.1 ≤ v ∧ v ≤ r.2) fields
    ((fieldForms e).flatMap FieldForm.ranges)

/-- An entry as R20 and R26 describe it: NEVER with nothing held, or another state with a sequence, a running
age timer and every field absent or in its range. -/
def Entry.inOrder (x : Entry) (e : EntryName) : Prop :=
  if x.freshness = .never then x.lastSeq = none ∧ x.fields = [] ∧ x.acceptedAt = none
  else x.lastSeq.isSome = true ∧ x.acceptedAt.isSome = true ∧ fieldsInRange e x.fields

/-- Every entry of the Topic Store is in order. -/
def State.entriesInOrder (s : State) : Prop := ∀ e, (s.topics.get e).inOrder e

/-- A load record lies in its ranges (R40, R41, R42). -/
def LoadRecord.inRange (r : LoadRecord) : Prop :=
  within 250 800 r.mass ∧ within 300 1200 r.height ∧ within 256 768 r.rearShare

/-- The load record, once there is one, lies in its ranges. -/
def State.loadInRange (s : State) : Prop := ∀ r, s.selector.load = some r → r.inRange

/-- A lean record lies in its ranges: lean within the clamp, band and published lean formed from it (R65, R68,
R69). -/
def LeanRecord.inRange (r : LeanRecord) : Prop :=
  -6500 ≤ r.selected ∧ r.selected ≤ 6500 ∧ r.band = r.selected.natAbs / 500 ∧ r.band ≤ 13 ∧
    r.published = tenthRounded r.selected ∧ -650 ≤ r.published ∧ r.published ≤ 650

/-- The latest lean record and the integration base lie in their ranges (R56, R65, R69, R71). -/
def State.leanInRange (s : State) : Prop :=
  (∀ r, s.estimator.latest = some r → r.inRange) ∧
    (∀ b, s.estimator.base = some b → -6500 ≤ b.lean ∧ b.lean ≤ 6500) ∧ s.estimator.disagreementRun ≤ 255

/-- The grip correction table: 14 bands, each correction within -512..0 (R93). -/
def GripUnit.tableInRange (g : GripUnit) : Prop :=
  g.table.length = 14 ∧ ∀ e ∈ g.table, -512 ≤ e.corr ∧ e.corr ≤ 0

/-- A budget record lies in its ranges (R84..R91). -/
def BudgetRecord.inRange (b : BudgetRecord) : Prop :=
  b.band ≤ 13 ∧ within 205 1536 b.muEff ∧ b.lateralUse ≤ 2196 ∧ b.allowance ≤ b.muEff ∧
    (b.saturated = true ↔ b.muEff ≤ b.lateralUse) ∧ within 2452 7848 b.totalLoad ∧
    b.frontLoad + b.rearLoad = b.totalLoad ∧ b.frontBraking + b.rearBraking = b.totalLoad ∧
    b.rearBraking ≤ b.rearLoad ∧ b.driveGripLimit ≤ 3000 ∧ b.frontLimit ≤ 2000 ∧ b.rearLimit ≤ 2000 ∧
    (b.rearLight = true ↔ b.rearBraking < b.totalLoad / 10)

/-- The latest budget record, once there is one, lies in its ranges. -/
def State.budgetInRange (s : State) : Prop := ∀ b, s.grip.latest = some b → b.inRange

/-- The regulation state is one in which T_work holds a value (R104). -/
def DriveState.limits : DriveState → Bool
  | .passive => false
  | .inhibited => false
  | _ => true

/-- The regulator as R104 describes it: T_work in the four limiting states alone, a hold count in HOLDING
alone, the path NONE in INHIBITED and another path in the limiting states. -/
def Drive.inOrder (d : Drive) : Prop :=
  (d.working.isSome = d.state.limits) ∧ (d.holdCount ≠ 0 → d.state = .holding) ∧
    (d.state = .inhibited → d.path = .none) ∧ (d.state.limits = true → d.path ≠ .none)

/-- The wheel state is one in which P_pub holds a value (R130). -/
def WheelState.limits : WheelState → Bool
  | .passive => false
  | .inhibited => false
  | _ => true

/-- A wheel as R130 and R136 describe it: P_pub in ADVISING, ENGAGED and YIELDED alone, and at most 2000. -/
def Wheel.inOrder (w : Wheel) : Prop :=
  (w.published.isSome = w.state.limits) ∧ ∀ p, w.published = some p → p ≤ 2000

/-- An echo list and its counts as R152, R157 and R158 describe them: at most four entries of distinct
sequences, oldest first, none delivered later than now; a FOLLOWING consumer has no miss in a row. -/
def Track.inOrder (t : Track) (now : Nat) : Prop :=
  t.echoes.length ≤ 4 ∧ (t.echoes.map EchoEntry.seq).Nodup ∧
    t.echoes.Pairwise (fun a b => a.deliveredAt ≤ b.deliveredAt) ∧ (∀ a ∈ t.echoes, a.deliveredAt ≤ now) ∧
    (t.status = .following → t.misses = 0) ∧ t.misses ≤ 255 ∧ t.matches' ≤ 255 ∧ t.absentRun ≤ 255

/-- Both tracks are in order, and empty until the profile load completes (R152, R168). -/
def State.tracksInOrder (s : State) : Prop :=
  (∀ c, (s.publisher.track c).inOrder s.now) ∧
    (s.loader.phase ≠ .running → ∀ c, (s.publisher.track c).echoes = [])

/-- The cut line is asserted only while the generator runs, and while it is asserted its assertion end timer
runs (R160). -/
def Generator.lineSafe (g : Generator) : Prop :=
  (g.asserted = true → g.run.isSome = true) ∧ (g.assertionEnds.isSome = g.asserted)

/-- The generator as R160 describes it: the line safe, 1..8 slots in force while it runs, a demand of 0..8. -/
def Generator.inOrder (g : Generator) : Prop :=
  g.lineSafe ∧ (∀ r, g.run = some r → within 1 8 r.slots) ∧ g.latestDemand ≤ 8

/-- The path of the last handover is the regulator's output path, and a regulation period runs on CUT_LINE alone
(R160, R161, R164). -/
def State.cutOnItsPath (s : State) : Prop :=
  s.generator.lastPath = s.drive.path ∧ (s.generator.cutActive = true → s.drive.path = .cutLine)

/-- The regulation cuts that the generator runs, the states and the path that the channels hold: the Monitor's
copy holds the same (R175). -/
def State.copyTrue (s : State) : Prop :=
  s.monitor.driveState = s.drive.state ∧ s.monitor.drivePath = s.drive.path ∧
    s.monitor.frontWheel = s.brake.front.state ∧ s.monitor.rearWheel = s.brake.rear.state ∧
    s.monitor.regulationCut = s.generator.cutActive

/-- The lamp is the one that the table of R176 gives for the fault set and the channel copy as they stand. -/
def State.lampTrue (s : State) : Prop := s.monitor.lamp = s.monitor.lampNow

/-- The conditions of the table of R173 that a block's own state shows are active exactly while it shows them,
and an active fault is latched (R31, R159, R17, R173, R174). -/
def State.conditionsTrue (s : State) : Prop :=
  (s.conditionActive .engineSilent = true ↔ s.publisher.engine.status = .silent) ∧
    (s.conditionActive .brakeSilent = true ↔ s.publisher.brake.status = .silent) ∧
    (s.conditionActive .linkMuted = true ↔ s.link.state = .muted) ∧
    (s.conditionActive .speedLost = true ↔ s.topics.wheelSpeeds.freshness = .stale) ∧
    (s.loader.phase = .running → s.conditionActive .profileFallback = s.loader.fallback) ∧
    (s.loader.phase ≠ .running → s.conditionActive .profileFallback = false) ∧
    ∀ f, (s.monitor.faults.get f).active = true → (s.monitor.faults.get f).latched = true

end Sys2Proof.Machine
end

