-- ==== Sys2Proof/Certificates/Slice0/Obligations.lean ====
section
/-! DEFINITION. The statements about the CG-40 for the provers. They follow the chapters of the manual; the
tests hold a witness for the hypotheses of each. -/

open Sys2Proof Sys2Proof.Machine

/-! ### The machine as a whole -/

/-- A step takes the command in front of the queue and runs it with the rest of the queue. -/
def Obligations.StepRunsTheFrontCommand : Prop :=
  ∀ (c : Instr) (rest : List Instr) (s : State), s.pending = c :: rest → step s = exec c (s.setPending rest)

/-- THE MODEL'S CHOICE (log entry 1): on an empty queue the expiry of the timer that has run out longest ago is
taken, and with none run out a tenth of a millisecond passes in which nothing happens. -/
def Obligations.EmptyQueueTakesTheDueTimer : Prop :=
  ∀ s : State, s.pending = [] →
    (∀ d ∈ s.runningTimers, d.1 ≤ s.now → (∀ e ∈ s.runningTimers, d.1 < e.1 ∨ e = d) → step s = exec d.2 s) ∧
    ((∀ d ∈ s.runningTimers, s.now < d.1) → step s = .next (s.setNow (s.now + 1)))

/-- Every command answers a next state, and none touches the queue. THE MODEL'S CHOICE: that a command whose event
the state rules out answers one too (log entry 8), and that the commands wait in a queue (log entry 1). -/
def Obligations.CommandsCompleteAndKeepTheQueue : Prop :=
  ∀ (c : Instr) (s : State), ∃ t, exec c s = .next t ∧ t.pending = s.pending

/-- After reset the part stands at the beginning of its power-on sequence, every block at its power-on values and
no command waiting, and the state meets every invariant stated below. THE MODEL'S CHOICE: the erased serial
memory (log entry 4), and the values before the load of the mode, offset, request, noted count and running
profile (log entry 7); DEDUCED: no frame given up, no slot driven, no limit frame awaited (log entry 12). -/
def Obligations.ResetIsThePowerOnState : Prop :=
  (State.reset.atPowerOn ∧ State.reset.pending = [] ∧ State.reset.memory = [] ∧ State.reset.responder.store = none) ∧
  (State.reset.storesWf ∧ State.reset.profile.inRange ∧ State.reset.linkInOrder ∧ State.reset.entriesInOrder ∧
     State.reset.loadInRange ∧ State.reset.leanInRange ∧ State.reset.budgetInRange ∧
     State.reset.grip.tableInRange ∧ State.reset.drive.inOrder ∧ State.reset.brake.front.inOrder ∧
     State.reset.brake.rear.inOrder ∧ State.reset.tracksInOrder ∧ State.reset.generator.inOrder ∧
     State.reset.conditionsTrue ∧ State.reset.copyTrue ∧ State.reset.lampTrue)

/-- POWER_ON restarts the part at any moment: every block at its power-on values and the first burst running,
the queue as it was. The serial memory keeps every page but one whose programming was under way. Among the
power-on values, those of the mode, offset, request and noted count are THE MODEL'S CHOICE (log entry 7), and no
frame given up, no slot driven and no limit frame awaited are DEDUCED (log entry 12). -/
def Obligations.PowerOnRestartsThePart : Prop :=
  ∀ s : State, ∃ t, exec .powerOn s = .next t ∧ t.atPowerOn ∧ t.pending = s.pending ∧
    (s.pageInProgress = none → t.memory = s.memory) ∧
    ∀ p, s.pageInProgress = some p → agreeOutsidePage s.memory t.memory p

/-! ### The Profile Loader and the profile store -/

/-- READ_BURST_END, in the load and in a store's read-back: page `n` of the image being read takes what the
burst carried, every other byte stays, and MSEL is released. THE MODEL'S CHOICE (log entry 2): the next burst runs
once time has passed. -/
def Obligations.ReadBurstsFillTheImage : Prop :=
  ∀ (after : Nat) (min : Option (List Byte)) (s : State) (n : Nat), n < 3 → s.loader.readImage.wf →
    let released (t : State) : Prop :=
      t.pins.burst = false ∧ ∀ now, t.now < now → (t.setNow now).pins.burst = true
    (s.loader.phase = .loading n →
      ∃ t, exec (.readBurstEnd after min) s = .next t ∧ t.now = s.now + after ∧
        t.loader.phase = .loading (n + 1) ∧ pageFromBurst s.memory t.loader.readImage n min ∧
        agreeOutsidePage s.loader.readImage t.loader.readImage n ∧ t.loader.profile = s.loader.profile ∧
        t.loader.fallback = s.loader.fallback ∧ released t ∧ s.onlyChanges t [.now, .loader]) ∧
    (∀ st, s.loader.phase = .running → s.responder.store = some st → st.stage = .readBack n →
      ∃ t, exec (.readBurstEnd after min) s = .next t ∧ t.now = s.now + after ∧
        t.responder = { s.responder with store := some { st with stage := .readBack (n + 1) } } ∧
        pageFromBurst s.memory t.loader.readImage n min ∧
        agreeOutsidePage s.loader.readImage t.loader.readImage n ∧ t.loader.phase = .running ∧
        t.loader.profile = s.loader.profile ∧ t.loader.fallback = s.loader.fallback ∧ released t ∧
        s.onlyChanges t [.now, .loader, .responder])

/-- PROFILE_LOAD_COMPLETE in a part at its power-on values: the image is judged and fixes the running profile,
the pending image copies it, the link enters SILENT (or JOINED with no entry required), the mode record and the
first load record are made, the timers start, the window opens and the first LT_STATUS frame is queued. -/
def Obligations.LoadCompletionStartsTheBlocks : Prop :=
  ∀ (min : Option (List Byte)) (s : State), s.loader.phase = .loading 3 → s.blocksAtPowerOn →
    s.loader.readImage.wf →
    ∃ t, exec (.profileLoadComplete min) s = .next t ∧ t.now = 0 ∧ t.loader.phase = .running ∧
      pageFromBurst s.memory t.responder.pendingImage 3 min ∧
      agreeOutsidePage s.loader.readImage t.responder.pendingImage 3 ∧
      t.profile = profileOf t.responder.pendingImage ∧
      t.loader.fallback = imageRejected t.responder.pendingImage ∧
      t.conditionActive .profileFallback = imageRejected t.responder.pendingImage ∧
      t.conditionActive .profileClamped = imageClamped t.responder.pendingImage ∧
      ((∃ e, (t.binding e).required = true) → t.link.state = .silent ∧ t.link.joinWaitEnds = some 5000) ∧
      ((∀ e, (t.binding e).required = false) → t.link.state = .joined ∧ t.link.joinWaitEnds = none) ∧
      t.link.queue = [⟨.ltStatus, 1, t.ltStatusPayload⟩] ∧
      t.selector.load =
        some ⟨clampNat 250 800 (t.profile.baseMass + (t.profile.loadRow 0).added), (t.profile.loadRow 0).height,
          (t.profile.loadRow 0).rearShare, .default⟩ ∧
      t.selector.latch = .opened ∧ t.selector.mode = Mode.ofNumber t.profile.defaultMode ∧
      t.selector.offset = 0 ∧ t.selector.request = none ∧ t.grip.latest = none ∧
      t.drive.stepDue = some 50 ∧ t.brake.stepDue = some 50 ∧ t.grip.reliefEnds = some 10000 ∧
      t.publisher.gripStateDue = some 200 ∧ t.monitor.ltStatusDue = some 1000 ∧
      t.responder.windowEnds = some 100000 ∧
      s.onlyChanges t
        [.now, .loader, .link, .selector, .grip, .drive, .brake, .publisher, .monitor, .responder]

/-- The judgement of any image: it is rejected when the codes differ, when it is all 0xFF or when its format is
not 1; a rejected image gives the fallback profile, which is the built-in one with default mode WET; an accepted one
gives its fields clamped. In either case every field of the running profile lies in its range.
The fields of an image are read from the byte places of R196. The clamps: a field outside its range takes the nearest
end of it, one within it is kept; the cut period is then taken down to a multiple of 8, and a recovery rise or drive
floor above the tracking rise or drive maximum of its mode is replaced by that; a profile in its ranges stays as it
is. -/
def Obligations.EveryImageGivesAProfileInRange : Prop :=
  ∀ m : Memory,
    (imageRejected m = true ↔
      (payloadCheck (bytesToBits (m.readBytes 0 254))).toNat ≠ 256 * (m.read 254).toNat + (m.read 255).toNat ∨
        (∀ a, a < 256 → m.read a = 0xFF) ∨ (m.read 0).toNat ≠ 1) ∧
    (imageRejected m = true → profileOf m = { builtInProfile with defaultMode := 1 } ∧ imageClamped m = false) ∧
    (imageRejected m = false →
      profileOf m = (readProfile m).clampFields ∧
        (imageClamped m = true ↔ (readProfile m).clampFields ≠ readProfile m)) ∧
    (profileOf m).inRange ∧
    (let byte (a : Nat) : Nat := (m.read a).toNat
     let word (a : Nat) : Nat := 256 * byte a + byte (a + 1)
     let q := readProfile m
     q.format = byte 0 ∧ q.ownStation = byte 1 ∧ q.serviceCode = byte 2 ∧ q.defaultMode = byte 3 ∧
       q.assumedLean = word 4 ∧ q.blindSlots = byte 6 ∧ q.cutPeriod = byte 7 ∧ q.baseMass = word 8 ∧
       q.wheelbase = word 10 ∧ q.rollingRadius = word 12 ∧ q.frontGain = byte 14 ∧ q.rearGain = byte 15 ∧
       q.loadTable.length = 4 ∧ q.gripMap.length = 14 ∧
       (∀ i, i < 4 →
         q.loadRow i = ⟨word (16 + 6 * i), word (16 + 6 * i + 2), word (16 + 6 * i + 4)⟩) ∧
       (∀ b, b < 14 → q.gripRow b = ⟨word (40 + 4 * b), word (40 + 4 * b + 2)⟩) ∧
       (∀ (mode : Mode) (a : Nat), a = 96 + 20 * (mode.number - 1) →
         q.modes.get mode =
           ⟨word a, word (a + 2), word (a + 4), byte (a + 6), byte (a + 7), byte (a + 8), byte (a + 9),
             word (a + 10), word (a + 12), byte (a + 14), byte (a + 15), word (a + 16), word (a + 18)⟩) ∧
       ∀ (k a : Nat) (e : EntryName), EntryName.all[k]? = some e → a = 176 + 6 * k →
         q.bindings.get e = ⟨word a, byte (a + 2), word (a + 3), decide (byte (a + 5) ≠ 0)⟩) ∧
    ∀ q : Profile,
      let c := q.clampFields
      let clamp (lo hi x : Nat) : Nat := if x < lo then lo else if hi < x then hi else x
      c.format = q.format ∧ c.ownStation = clamp 0 31 q.ownStation ∧ c.serviceCode = q.serviceCode ∧
        c.defaultMode = clamp 1 4 q.defaultMode ∧ c.assumedLean = clamp 0 6500 q.assumedLean ∧
        c.blindSlots = clamp 0 8 q.blindSlots ∧ c.cutPeriod = clamp 16 48 q.cutPeriod / 8 * 8 ∧
        c.baseMass = clamp 150 500 q.baseMass ∧ c.wheelbase = clamp 1200 2000 q.wheelbase ∧
        c.rollingRadius = clamp 250 400 q.rollingRadius ∧ c.frontGain = clamp 10 200 q.frontGain ∧
        c.rearGain = clamp 10 200 q.rearGain ∧ c.loadTable.length = q.loadTable.length ∧
        c.gripMap.length = q.gripMap.length ∧
        (∀ (i : Nat) (r : LoadRow), q.loadTable[i]? = some r →
          c.loadTable[i]? = some ⟨clamp 0 400 r.added, clamp 300 1200 r.height, clamp 256 768 r.rearShare⟩) ∧
        (∀ (b : Nat) (r : GripRow), q.gripMap[b]? = some r →
          c.gripMap[b]? = some ⟨clamp 205 1536 r.muBase, clamp 16 512 r.slipTarget⟩) ∧
        (∀ mode,
          let x := q.modes.get mode
          let rise := clamp 1 200 x.trackingRise
          let greatest := clamp 100 3000 x.driveMax
          c.modes.get mode =
            ⟨clamp 512 1024 x.gripScale, clamp 512 1536 x.slipScale, clamp 32 512 x.cutFraction, rise,
              min rise (clamp 1 200 x.recoveryRise), clamp 1 100 x.holdSteps, clamp 0 1 x.cutPermission,
              min greatest (clamp 0 500 x.driveFloor), greatest, clamp 1 200 x.brakeRise,
              clamp 1 200 x.brakeFall, clamp 0 2000 x.frontFloor, clamp 0 2000 x.rearFloor⟩) ∧
        (∀ e,
          let b := q.bindings.get e
          c.bindings.get e =
            ⟨clamp 0 1023 b.topic, clamp 0 31 b.sender, clamp 2 1000 b.deadline, b.required⟩) ∧
        (q.inRange → c = q)

/-- STORE_PROFILE with every check passed begins a store: the check code is placed in bytes 254..255 of the pending
image, the burst of page 0 starts, the store is counted, and no reply is offered yet.
The three commands of a page: the end of its programming burst, its done report within 15 ms, its timeout.
A page done is held by the serial memory; a timeout ends the store as failed with the reply STORE_FAILED.
That the burst of a page, and the first one of the read-back, starts at the moment of the request or of the done
report before it is THE MODEL'S CHOICE (log entry 2).
STORE_READBACK_COMPLETE: the last page is read back, and the store has succeeded exactly when every byte read
agrees with the pending image; the reply carries the tag of the store request and OK or STORE_FAILED, and the
condition follows it. -/
def Obligations.StoreRunsThroughItsStages : Prop :=
  let replies (s t : State) (st : Store) (status : Byte) : Prop :=
    t.responder.replies = bump s.responder.replies ∧
      (s.link.state = .silent ∨ s.link.state = .joined → s.link.queue.length ≤ 2 →
        ⟨.serviceReply, s.link.seqs.serviceReply + 1, [st.tag, status, st.record, st.offset]⟩ ∈ t.link.queue)
  (∀ (s : State) (p : List Byte), p.length = 10 → (p.getD 0 0).toNat = s.profile.ownStation →
     p.getD 3 0 = 3 → s.responder.store = none → (p.getD 2 0).toNat = s.profile.serviceCode →
     s.responder.windowEnds.isSome = true → s.responder.pendingImage.wf →
     let t := s.serve p
     let image := s.responder.pendingImage
     let image' := t.responder.pendingImage
     t.responder =
         { s.responder with
           store := some ⟨.pageBurst 0, p.getD 1 0, p.getD 4 0, p.getD 5 0⟩
           pendingImage := image'
           stores := bump s.responder.stores } ∧
       (∀ a, a ≠ 254 → a ≠ 255 → image'.read a = image.read a) ∧
       256 * (image'.read 254).toNat + (image'.read 255).toNat =
         (payloadCheck (bytesToBits (image.readBytes 0 254))).toNat ∧
       s.onlyChanges t [.responder]) ∧
  (∀ (s : State) (st : Store) (p : Nat), s.responder.store = some st →
     (∀ after, st.stage = .pageBurst p →
       ∃ t, exec (.storePageBurstEnd after) s = .next t ∧ t.now = s.now + after ∧
         t.responder = { s.responder with store := some { st with stage := .pageWait p t.now } } ∧
         s.onlyChanges t [.now, .responder]) ∧
     (∀ after b, st.stage = .pageWait p b → s.now + after ≤ b + 150 → s.memory.wf →
       ∃ t, exec (.storePageDone after) s = .next t ∧ t.now = s.now + after ∧
         (∀ i, i < 64 → t.memory.read (64 * p + i) = s.responder.pendingImage.read (64 * p + i)) ∧
         agreeOutsidePage s.memory t.memory p ∧
         t.responder =
           { s.responder with
             store := some { st with stage := if p < 3 then .pageBurst (p + 1) else .readBack 0 } } ∧
         t.loader.phase = s.loader.phase ∧ t.loader.profile = s.loader.profile ∧
         t.loader.fallback = s.loader.fallback ∧ s.onlyChanges t [.now, .memory, .loader, .responder]) ∧
     (∀ b, st.stage = .pageWait p b →
       ∃ t, exec .storePageTimeout s = .next t ∧ t.now = max s.now (b + 150) ∧
         t.responder =
           { s.responder with
             store := none
             replies := bump s.responder.replies
             failedStores := bump s.responder.failedStores } ∧
         replies s t st 8 ∧ s.monitor.faults.onlyFault t.monitor.faults .storeFailed true ∧
         agreeOutsidePage s.memory t.memory p ∧ s.link.onlyOffers t.link ∧
         s.publisher.onlyAwaits t.publisher ∧
         s.onlyChanges t [.now, .memory, .draws, .link, .publisher, .monitor, .responder])) ∧
  (∀ (after : Nat) (min : Option (List Byte)) (s : State) (st : Store),
     s.responder.store = some st → st.stage = .readBack 3 → s.loader.readImage.wf →
     ∃ t, exec (.storeReadbackComplete after min) s = .next t ∧ t.now = s.now + after ∧
       pageFromBurst s.memory t.loader.readImage 3 min ∧
       agreeOutsidePage s.loader.readImage t.loader.readImage 3 ∧
       t.responder.store = none ∧ t.responder.pendingImage = s.responder.pendingImage ∧
       t.responder.stores = s.responder.stores ∧ t.profile = s.profile ∧
       ((∀ a, a < 256 → t.loader.readImage.read a = s.responder.pendingImage.read a) →
         replies s t st 0 ∧ t.responder.failedStores = s.responder.failedStores ∧
           s.monitor.faults.onlyFault t.monitor.faults .storeFailed false) ∧
       ((∃ a, a < 256 ∧ t.loader.readImage.read a ≠ s.responder.pendingImage.read a) →
         replies s t st 8 ∧ t.responder.failedStores = bump s.responder.failedStores ∧
           s.monitor.faults.onlyFault t.monitor.faults .storeFailed true) ∧
       s.link.onlyOffers t.link ∧ s.publisher.onlyAwaits t.publisher ∧
       s.onlyChanges t [.now, .loader, .link, .publisher, .monitor, .responder])

/-- Every byte store stays in its canonical form and the running profile in its ranges, at every step. -/
def Obligations.StoresAndProfileStaySound : Prop :=
  ∀ s t : State, s.storesWf → s.profile.inRange → step s = .next t → t.storesWf ∧ t.profile.inRange

/-! ### Service requests -/

/-- The stages of a request's judgement, each ending it with its status: ignored, BAD_KIND, READ served whatever
else holds, BUSY during a store, BAD_CODE, and then for WRITE_MASKED BAD_RECORD, BAD_OFFSET and WINDOW_CLOSED, for
STORE_PROFILE WINDOW_CLOSED. The numbers 0..8 are those of the reply statuses. Past BAD_CODE kind 4 is CLEAR_FAULTS
and kind 5 CUT_TEST, with the fields of the payload.
READ returns the bytes of a numbered record 0..16 from its offset on, up to 8, BAD_RECORD or BAD_OFFSET
otherwise, during a store and without a code too; it changes nothing but the reply that it offers and counts.
Record 0 holds the identity and the responder's state, its remaining window time in whole ms (log entry 11 for the
rounding), record 2 the ten link counters in their order, record 16 the pending image. -/
def Obligations.RequestsAreJudgedInStages : Prop :=
  (∀ (s : State) (p : List Byte),
     (p.length ≠ 10 ∨ (p.getD 0 0).toNat ≠ s.profile.ownStation →
       s.serve p =
         s.setResponder { s.responder with ignoredRequests := bump s.responder.ignoredRequests }) ∧
     (p.length = 10 → (p.getD 0 0).toNat = s.profile.ownStation →
       let kind := (p.getD 3 0).toNat
       let replies (status : Nat) : State :=
         (s.setResponder { s.responder with replies := bump s.responder.replies }).offer .serviceReply
           [p.getD 1 0, BitVec.ofNat 8 status, p.getD 4 0, p.getD 5 0]
       (kind = 0 ∨ 5 < kind → s.serve p = replies 2) ∧
       (2 ≤ kind → kind ≤ 5 → s.responder.store.isSome = true → s.serve p = replies 6) ∧
       (2 ≤ kind → kind ≤ 5 → s.responder.store = none → (p.getD 2 0).toNat ≠ s.profile.serviceCode →
         s.serve p = replies 1) ∧
       (kind = 2 → s.responder.store = none → (p.getD 2 0).toNat = s.profile.serviceCode →
         (p.getD 4 0 ≠ 16 → s.serve p = replies 3) ∧
           (p.getD 4 0 = 16 → (p.getD 5 0).toNat % 2 = 1 → s.serve p = replies 4)) ∧
       ((kind = 2 ∨ kind = 3) → s.responder.store = none → (p.getD 2 0).toNat = s.profile.serviceCode →
         s.responder.windowEnds = none →
         (kind = 2 → p.getD 4 0 = 16 → (p.getD 5 0).toNat % 2 = 0 → s.serve p = replies 5) ∧
           (kind = 3 → s.serve p = replies 5)) ∧
       (let fields : Request :=
          ⟨p.getD 0 0, p.getD 1 0, p.getD 2 0, p.getD 3 0, p.getD 4 0, p.getD 5 0, p.getD 6 0 ++ p.getD 7 0,
            p.getD 8 0 ++ p.getD 9 0⟩
        s.responder.store = none → (p.getD 2 0).toNat = s.profile.serviceCode →
          (kind = 4 → s.serve p = s.serveClear fields) ∧ (kind = 5 → s.serve p = s.serveTest fields)))) ∧
  (∀ (s : State) (p : List Byte), p.length = 10 → (p.getD 0 0).toNat = s.profile.ownStation →
     p.getD 3 0 = 1 →
     let t := s.serve p
     let record := (p.getD 4 0).toNat
     let offset := (p.getD 5 0).toNat
     let replies (status : Byte) (data : List Byte) : State :=
       (s.setResponder { s.responder with replies := bump s.responder.replies }).offer .serviceReply
         ([p.getD 1 0, status, p.getD 4 0, p.getD 5 0] ++ data)
     (16 < record → t = replies 3 []) ∧
     (record ≤ 16 →
       ∃ bytes, s.serviceRecord record = some bytes ∧
         (offset < bytes.length → t = replies 0 ((bytes.drop offset).take 8)) ∧
         (bytes.length ≤ offset → t = replies 4 [])) ∧
     t.responder = { s.responder with replies := bump s.responder.replies } ∧
     s.link.onlyOffers t.link ∧ s.publisher.onlyAwaits t.publisher ∧
     s.onlyChanges t [.link, .publisher, .responder]) ∧
  ∀ s : State, ∃ r0 r2 r16 : List Byte,
    let byte (l : List Byte) (i : Nat) : Nat := (l.getD i 0).toNat
    let word (l : List Byte) (i : Nat) : Nat := 256 * byte l i + byte l (i + 1)
    let x := s.responder
    let c := s.link.counters
    (s.serviceRecord 0 = some r0 ∧ r0.length = 20 ∧ word r0 0 = 0x3A17 ∧ word r0 2 = 0x0040 ∧ byte r0 4 = 1 ∧
      byte r0 5 = (if s.loader.fallback then 1 else 0) ∧ byte r0 6 = s.profile.ownStation % 256 ∧
      byte r0 7 = s.profile.format % 256 ∧
      (x.windowEnds = none → byte r0 8 = 0 ∧ word r0 9 = 0xFFFF) ∧
      (∀ d, x.windowEnds = some d → byte r0 8 = 1 ∧ word r0 9 = (d - s.now) / 10 % 65536) ∧
      (x.store = none → byte r0 11 = 0) ∧
      (∀ st p b, x.store = some st → p < 4 → st.stage = .pageBurst p ∨ st.stage = .pageWait p b →
        byte r0 11 = 2 + p) ∧
      (∀ st n, x.store = some st → st.stage = .readBack n → byte r0 11 = 6) ∧
      word r0 12 = x.ignoredRequests % 65536 ∧ word r0 14 = x.replies % 65536 ∧
      word r0 16 = x.stores % 65536 ∧ word r0 18 = x.failedStores % 65536) ∧
    (s.serviceRecord 2 = some r2 ∧ r2.length = 20 ∧
      ∀ (k n : Nat),
        [c.headerErrors, c.payloadErrors, c.unbound, c.delivered, c.rejected, c.unheard, c.collided,
          c.superseded, c.dropped, c.arbitrationLosses][k]? = some n →
        word r2 (2 * k) = n % 65536) ∧
    s.serviceRecord 16 = some r16 ∧ r16.length = 256 ∧ ∀ i, i < 256 → r16.getD i 0 = x.pendingImage.read i

/-- WRITE_MASKED with every check passed: under a set mask bit the word of the pending image takes the data bit,
under a clear one it keeps its own; every other byte stays; the reply carries the old word. -/
def Obligations.WriteMaskedChangesOneWord : Prop :=
  ∀ (s : State) (p : List Byte), p.length = 10 → (p.getD 0 0).toNat = s.profile.ownStation →
    p.getD 3 0 = 2 → s.responder.store = none → (p.getD 2 0).toNat = s.profile.serviceCode →
    p.getD 4 0 = 16 → (p.getD 5 0).toNat % 2 = 0 → s.responder.windowEnds.isSome = true →
    s.responder.pendingImage.wf →
    let t := s.serve p
    let a := (p.getD 5 0).toNat
    let old := s.responder.pendingImage
    (∀ i, i < 2 → ∀ k, k < 8 →
      ((t.responder.pendingImage.read (a + i)).getLsbD k =
        if (p.getD (8 + i) 0).getLsbD k then (p.getD (6 + i) 0).getLsbD k
        else (old.read (a + i)).getLsbD k)) ∧
    (∀ b, b ≠ a → b ≠ a + 1 → t.responder.pendingImage.read b = old.read b) ∧
    t.link =
      (s.offer .serviceReply [p.getD 1 0, 0, p.getD 4 0, p.getD 5 0, old.read a, old.read (a + 1)]).link ∧
    t.responder.replies = bump s.responder.replies ∧ t.memory = s.memory ∧ t.profile = s.profile ∧
    s.onlyChanges t [.link, .publisher, .responder]

/-- WINDOW_EXPIRY closes the commissioning window, as does an arrival of WHEEL_SPEEDS at 1.00 m/s or more; a
slower arrival, or one without a front speed, leaves it as it is. -/
def Obligations.TheWindowCloses : Prop :=
  (∀ (s : State) (d : Nat), s.responder.windowEnds = some d →
    exec .windowExpiry s =
      .next ((s.setNow (max s.now d)).setResponder { s.responder with windowEnds := none })) ∧
  ∀ s : State,
    (∀ v, s.topics.frontSpeed = some v → 100 ≤ v →
      s.windowArrival = s.setResponder { s.responder with windowEnds := none }) ∧
    (∀ v, s.topics.frontSpeed = some v → v < 100 → s.windowArrival = s) ∧
    (s.topics.frontSpeed = none → s.windowArrival = s)

/-! ### The chassis link -/

/-- A frame that its sender drives is read back as the fields it was made of, whatever levels follow it:
header, both checks, payload and stuff bits agree in the two directions. -/
def Obligations.SentFramesAreReadBack : Prop :=
  ∀ (f : Frame) (tail : List Level), f.wellFormed = true → parseFrame (encodeFrame f ++ tail) = .good f

/-- The stuff bits break every run: the levels a sender drives from the start bit to the last check never hold
six equal bits in a row. -/
def Obligations.StuffingBreaksEveryRun : Prop :=
  ∀ (f : Frame) (i : Nat) (b : Level), i + 6 ≤ (encodeFrame f).length →
    ∃ j, j < 6 ∧ (encodeFrame f)[i + j]? ≠ some b

/-- FRAME_START puts the waiting frame of the lowest topic number on the wire, and MEDIUM_IDLE lets a part that
had given up a frame take part again; neither changes anything else. While a frame is on the wire the part drives it
with the own station as its sender, its topic, sequence and payload, and then both slot bits and the end delimiter
recessive; with none on the wire it drives none. -/
def Obligations.FramesStartAtIdle : Prop :=
  (∀ s : State,
    (s.link.wire = none → s.pins.sending = none) ∧
    ∀ f, s.link.wire = some f →
      s.pins.sending =
        some (encodeFrame ⟨f.topic.number, s.profile.ownStation, f.seq, f.payload⟩ ++ List.replicate 9 true)) ∧
  ∀ (after : Nat) (s : State),
    (∀ f rest, s.link.state = .joined → s.link.wire = none → s.link.awaitingIdle = false →
      s.link.queue = f :: rest →
      exec (.frameStart after) s =
          .next ((s.setNow (s.now + after)).setLink { s.link with wire := some f, queue := rest }) ∧
        (s.link.inOrder → ∀ g ∈ rest, f.topic.number < g.topic.number)) ∧
    exec (.mediumIdle after) s =
      .next ((s.setNow (s.now + after)).setLink { s.link with awaitingIdle := false })

/-- A lower priority key on the medium takes it from the frame on the wire: superseded when a newer frame of its
topic waits, else back in the queue with its sequence, where the highest topic of five is dropped. -/
def Obligations.LostArbitrationReturnsTheFrame : Prop :=
  ∀ (after key : Nat) (s : State) (f : TxFrame), s.link.wire = some f →
    key < 32 * f.topic.number + s.profile.ownStation → s.link.inOrder →
    ∃ t, exec (.arbitrationLoss after key) s = .next t ∧ t.now = s.now + after ∧ t.link.wire = none ∧
      t.link.state = s.link.state ∧ t.link.failures = s.link.failures ∧ t.link.seqs = s.link.seqs ∧
      t.link.counters.arbitrationLosses = bump s.link.counters.arbitrationLosses ∧ t.link.inOrder ∧
      ((∃ g ∈ s.link.queue, g.topic = f.topic) →
        t.link.queue = s.link.queue ∧ t.link.counters.superseded = bump s.link.counters.superseded) ∧
      ((∀ g ∈ s.link.queue, g.topic ≠ f.topic) → s.link.queue.length ≤ 3 →
        t.link.queue.Perm (f :: s.link.queue) ∧ t.link.counters.dropped = s.link.counters.dropped) ∧
      ((∀ g ∈ s.link.queue, g.topic ≠ f.topic) → s.link.queue.length = 4 →
        t.link.counters.dropped = bump s.link.counters.dropped ∧
          ∃ last, (t.link.queue ++ [last]).Perm (f :: s.link.queue) ∧
            ∀ g ∈ t.link.queue, g.topic.number < last.topic.number) ∧
      s.publisher.onlyAwaits t.publisher ∧ s.onlyChanges t [.now, .link, .publisher]

/-- The failure outcomes short of the sixteenth: COLLIDED at a bit read back wrong, REJECTED at a dominant second
slot bit, UNHEARD at a silent slot. Each takes the frame off the wire, counts itself and one failure; COLLIDED
also latches STATION_CLASH and waits for idle. No echo list changes. -/
def Obligations.FailedFramesCountTowardsTheMute : Prop :=
  ∀ (after : Nat) (s : State) (f : TxFrame), s.link.wire = some f → s.link.state = .joined →
    s.link.failures < 15 →
    (∃ t, exec (.collided after) s = .next t ∧ t.now = s.now + after ∧ t.link.wire = none ∧
      t.link.awaitingIdle = true ∧ t.link.state = .joined ∧ t.link.failures = s.link.failures + 1 ∧
      t.link.counters.collided = bump s.link.counters.collided ∧
      s.monitor.faults.onlyFault t.monitor.faults .stationClash true ∧
      (s.conditionActive .stationClash = false → (t.monitor.faults.get .stationClash).latched = true) ∧
      s.publisher.onlyAwaits t.publisher ∧ s.onlyChanges t [.now, .link, .publisher, .monitor]) ∧
    (∀ first, ∃ t, exec (.ackSlotRead after first false) s = .next t ∧ t.now = s.now + after ∧
      t.link =
        { s.link with
          wire := none
          failures := s.link.failures + 1
          counters := { s.link.counters with rejected := bump s.link.counters.rejected } } ∧
      s.publisher.onlyAwaits t.publisher ∧ s.onlyChanges t [.now, .link, .publisher]) ∧
    (∃ t, exec (.ackSlotRead after true true) s = .next t ∧ t.now = s.now + after ∧
      t.link =
        { s.link with
          wire := none
          failures := s.link.failures + 1
          counters := { s.link.counters with unheard := bump s.link.counters.unheard } } ∧
      s.publisher.onlyAwaits t.publisher ∧ s.onlyChanges t [.now, .link, .publisher])

/-- The sixteenth failure in a row, of whichever kind, mutes the link at that outcome: the queue is flushed with
each frame dropped, the mute timer runs for 200 ms and LINK_MUTED becomes active. That COLLIDED leaves every
sequence rests on the order of its two reports, the mute before STATION_CLASH (DEDUCED, log entry 9). -/
def Obligations.SixteenthFailureMutesTheLink : Prop :=
  ∀ (after : Nat) (s : State) (f : TxFrame) (c : Instr), s.link.wire = some f → s.link.state = .joined →
    s.link.failures = 15 → s.link.counters.dropped ≤ 65535 →
    (c = .collided after ∨ (∃ first, c = .ackSlotRead after first false) ∨ c = .ackSlotRead after true true) →
    ∃ t, exec c s = .next t ∧ t.now = s.now + after ∧ t.link.state = .muted ∧ t.link.wire = none ∧
      t.link.queue = [] ∧ t.link.failures = 16 ∧ t.link.muteEnds = some (t.now + 2000) ∧
      t.conditionActive .linkMuted = true ∧ t.link.seqs = s.link.seqs ∧
      min 65535 (s.link.counters.dropped + s.link.queue.length) ≤ t.link.counters.dropped ∧
      s.publisher.onlyAwaits t.publisher ∧ s.onlyChanges t [.now, .link, .publisher, .monitor]

/-- A slot read as ACCEPT alone delivers the frame: the failure count returns to 0, STATION_CLASH becomes
inactive, and an awaited limit frame enters the echo list of its consumer (R153), whose SILENT condition then follows
its status; no other list and no other fault changes. The rest of the link stays but for the frames of a lamp change,
and all of it where neither condition changes; the other awaited frames then stay too. -/
def Obligations.DeliveredFramesEnterTheEchoLists : Prop :=
  ∀ (after : Nat) (s : State) (f : TxFrame), s.link.wire = some f →
    ∃ t, exec (.ackSlotRead after false true) s = .next t ∧ t.now = s.now + after ∧ t.link.wire = none ∧
      t.link.failures = 0 ∧ t.link.state = s.link.state ∧
      t.link.counters.delivered = bump s.link.counters.delivered ∧
      (let delivered : Link :=
         { s.link with
           wire := none
           failures := 0
           counters := { s.link.counters with delivered := bump s.link.counters.delivered } }
       delivered.onlyOffers t.link ∧
         (s.conditionActive .stationClash = false →
           (∀ c, f.topic = limitTopic c → ∀ a ∈ s.publisher.awaited, a.topic = f.topic → a.seq = f.seq →
             s.conditionActive (silentFault c) = decide ((t.publisher.track c).status = .silent)) →
           t.link = delivered ∧ t.monitor = s.monitor ∧
             ∀ a ∈ s.publisher.awaited, ¬(a.topic = f.topic ∧ a.seq = f.seq) → a ∈ t.publisher.awaited)) ∧
      (∀ g, g ≠ .stationClash → (∀ c, f.topic = limitTopic c → g ≠ silentFault c) →
        t.monitor.faults.get g = s.monitor.faults.get g) ∧
      (∀ c, f.topic = limitTopic c →
        ((∃ a ∈ s.publisher.awaited, a.topic = f.topic ∧ a.seq = f.seq) →
          t.conditionActive (silentFault c) = decide ((t.publisher.track c).status = .silent)) ∧
        ((∀ a ∈ s.publisher.awaited, ¬(a.topic = f.topic ∧ a.seq = f.seq)) →
          t.monitor.faults.get (silentFault c) = s.monitor.faults.get (silentFault c))) ∧
      t.conditionActive .stationClash = false ∧
      (∀ c a, f.topic = limitTopic c →
        s.publisher.awaited.find? (fun a => a.topic == f.topic && a.seq == f.seq) = some a →
        t.publisher.track c = (s.publisher.track c).deliver ⟨f.seq, a.value, t.now⟩ ∧
          ∀ d, d ≠ c → t.publisher.track d = s.publisher.track d) ∧
      ((∀ c, f.topic ≠ limitTopic c) → s.publisher.onlyAwaits t.publisher) ∧
      (∀ a ∈ t.publisher.awaited, ¬(a.topic = f.topic ∧ a.seq = f.seq)) ∧
      s.onlyChanges t [.now, .link, .publisher, .monitor]

/-- MUTE_EXPIRY: LINK_MUTED and PEERS_MISSING become inactive, the failure count returns to 0, every heard mark is
cleared and a join wait of 500 ms begins in SILENT; with no entry required the link is JOINED at once.
JOIN_WAIT_EXPIRY: the link is JOINED and PEERS_MISSING becomes active. -/
def Obligations.MuteAndJoinWaitRunOut : Prop :=
  ∀ (s : State) (d : Nat),
    (s.link.state = .muted → s.link.muteEnds = some d →
      ∃ t, exec .muteExpiry s = .next t ∧ t.now = max s.now d ∧ t.link.failures = 0 ∧
        t.link.muteEnds = none ∧ t.conditionActive .linkMuted = false ∧
        t.conditionActive .peersMissing = false ∧
        (∀ e, t.topics.get e = { s.topics.get e with heard := false }) ∧
        ((∃ e, (s.binding e).required = true) →
          t.link.state = .silent ∧ t.link.joinWaitEnds = some (t.now + 5000)) ∧
        ((∀ e, (s.binding e).required = false) → t.link.state = .joined ∧ t.link.joinWaitEnds = none) ∧
        s.publisher.onlyAwaits t.publisher ∧
        s.onlyChanges t [.now, .link, .topics, .publisher, .monitor]) ∧
    (s.link.state = .silent → s.link.joinWaitEnds = some d →
      ∃ t, exec .joinWaitExpiry s = .next t ∧ t.now = max s.now d ∧ t.link.state = .joined ∧
        t.link.joinWaitEnds = none ∧ s.monitor.faults.onlyFault t.monitor.faults .peersMissing true ∧
        s.publisher.onlyAwaits t.publisher ∧ s.onlyChanges t [.now, .link, .publisher, .monitor])

/-- FRAME_HEARD with a failed check or a length above 12: the frame is counted and discarded, nothing is driven
for a header error and REJECT for a payload error while JOINED, and no other block hears of it. A header that
passes with the own station in it first makes STATION_CLASH active, and the frame is then discarded in the same
way. -/
def Obligations.DamagedFramesAreDiscarded : Prop :=
  ∀ (after : Nat) (bits : List Level) (s : State), s.link.hears = true →
    let heard := s.setNow (s.now + after)
    let clash := heard.setCondition .stationClash true
    let headerError (u : State) : State :=
      u.setLink
        { u.link with
          slotDrive := .nothing
          awaitingIdle := true
          counters := { u.link.counters with headerErrors := bump u.link.counters.headerErrors } }
    let payloadError (u : State) : State :=
      u.setLink
        { u.link with
          slotDrive := if s.link.state = .joined then .reject else .nothing
          counters := { u.link.counters with payloadErrors := bump u.link.counters.payloadErrors } }
    (parseFrame bits = .badHeader → exec (.frameHeard after bits) s = .next (headerError heard)) ∧
    (∀ sn, parseFrame bits = .badLength sn →
      (sn ≠ s.profile.ownStation → exec (.frameHeard after bits) s = .next (headerError heard)) ∧
      (sn = s.profile.ownStation → exec (.frameHeard after bits) s = .next (headerError clash))) ∧
    (∀ sn, parseFrame bits = .badPayload sn →
      (sn ≠ s.profile.ownStation → exec (.frameHeard after bits) s = .next (payloadError heard)) ∧
      (sn = s.profile.ownStation → exec (.frameHeard after bits) s = .next (payloadError clash))) ∧
    s.monitor.faults.onlyFault clash.monitor.faults .stationClash true ∧
    (s.conditionActive .stationClash = false → (clash.monitor.faults.get .stationClash).latched = true) ∧
    (s.conditionActive .stationClash = true → clash = heard) ∧
    s.link.onlyOffers clash.link ∧ s.publisher.onlyAwaits clash.publisher ∧
    s.onlyChanges clash [.now, .link, .publisher, .monitor]

/-- FRAME_HEARD with every check passed: ACCEPT is driven while JOINED and nothing otherwise, and the frame goes
to the entries bound to its topic, else to the chassis-reset handling (topic 10), else to the Service Responder
(topic 950), else it counts as unbound. A frame that carries the own station makes STATION_CLASH active and is then
taken like any other. A part that sends, or waits for idle, or is inactive hears nothing. Each bound entry is offered
the frame in turn; the order of several entries bound to one topic is THE MODEL'S CHOICE (log entry 9). -/
def Obligations.IntactFramesAreHandedOver : Prop :=
  ∀ (after : Nat) (bits : List Level) (f : Frame) (s : State),
    (s.link.hears = true → parseFrame bits = .good f →
      let heard := s.setNow (s.now + after)
      let c := if f.sender = s.profile.ownStation then heard.setCondition .stationClash true else heard
      let u := c.setLink
        { c.link with slotDrive := if s.link.state = .joined then .accept else .nothing }
      let bound := EntryName.all.filter fun e => (s.binding e).topic == f.topic
      (bound ≠ [] → exec (.frameHeard after bits) s = .next (State.offerEntries u f bound)) ∧
      (bound = [] → f.topic = 10 → exec (.frameHeard after bits) s = .next (u.resetMessage f)) ∧
      (bound = [] → f.topic = 950 → exec (.frameHeard after bits) s = .next (u.serve f.payload)) ∧
      (bound = [] → f.topic ≠ 10 → f.topic ≠ 950 →
        exec (.frameHeard after bits) s =
          .next (u.setLink
            { u.link with
              counters := { u.link.counters with unbound := bump u.link.counters.unbound } })) ∧
      (f.sender = s.profile.ownStation →
        s.monitor.faults.onlyFault u.monitor.faults .stationClash true ∧
          s.publisher.onlyAwaits u.publisher ∧
          s.onlyChanges u [.now, .link, .publisher, .monitor])) ∧
    (s.link.state = .inactive ∨ s.link.wire.isSome = true ∨ s.link.awaitingIdle = true →
      exec (.frameHeard after bits) s = .next (s.setNow (s.now + after))) ∧
    State.offerEntries s f [] = s ∧
    ∀ (e : EntryName) (rest : List EntryName),
      State.offerEntries s f (e :: rest) = State.offerEntries (s.offerEntry e f) f rest

/-- An offer in SILENT or JOINED takes the next sequence of its topic, in the place of a waiting frame of that
topic or in topic order, and the highest topic of five is dropped; in MUTED it is dropped and takes none; before
the load it is not accepted. Nothing but the queue, the sequences and two counts changes. -/
def Obligations.OffersTakeTheNextSequence : Prop :=
  ∀ (s : State) (topic : TxTopic) (payload : List Byte), s.link.inOrder →
    let t := s.offer topic payload
    let f : TxFrame := ⟨topic, s.link.seqs.get topic + 1, payload⟩
    s.link.onlyOffers t.link ∧ t.link.inOrder ∧ s.onlyChanges t [.link, .publisher] ∧
    (s.link.state = .inactive → t.link = s.link) ∧
    (s.link.state = .muted →
      t.link.queue = [] ∧ t.link.seqs = s.link.seqs ∧
        t.link.counters.dropped = bump s.link.counters.dropped) ∧
    (s.link.state = .silent ∨ s.link.state = .joined →
      t.link.seqs.get topic = s.link.seqs.get topic + 1 ∧
      (∀ other, other ≠ topic → t.link.seqs.get other = s.link.seqs.get other) ∧
      (∀ g ∈ s.link.queue, g.topic = topic →
        t.link.queue.Perm (f :: s.link.queue.erase g) ∧
          t.link.counters.superseded = bump s.link.counters.superseded) ∧
      ((∀ g ∈ s.link.queue, g.topic ≠ topic) → s.link.queue.length ≤ 3 →
        t.link.queue.Perm (f :: s.link.queue) ∧
          t.link.counters.superseded = s.link.counters.superseded ∧
          t.link.counters.dropped = s.link.counters.dropped) ∧
      ((∀ g ∈ s.link.queue, g.topic ≠ topic) → s.link.queue.length = 4 →
        t.link.counters.dropped = bump s.link.counters.dropped ∧
          ∃ last, (t.link.queue ++ [last]).Perm (f :: s.link.queue) ∧
            ∀ g ∈ t.link.queue, g.topic.number < last.topic.number))

/-- The link controller stays in order at every step: one waiting frame of a topic at most, in topic order, four
at most, a frame on the wire only while JOINED, 16 failures exactly while MUTED, its timers in their states. -/
def Obligations.LinkStaysInOrder : Prop :=
  ∀ s t : State, s.linkInOrder → step s = .next t → t.linkInOrder

/-! ### The Topic Store -/

/-- The frames that an entry discards: of the wrong length (malformed, whatever the sender), of the wrong sender
(intruder; the fourth makes TOPIC_CONTENTION active), repeating the last sequence in FRESH or LATE (duplicate).
Each counts itself and changes nothing else of the entry. -/
def Obligations.EntriesDiscardByLengthSenderSequence : Prop :=
  ∀ (s : State) (e : EntryName) (f : Frame),
    let x := s.topics.get e
    let t := s.offerEntry e f
    (f.payload.length ≠ payloadLength e →
      t = s.setTopics (s.topics.set e { x with malformed := bump x.malformed })) ∧
    (f.payload.length = payloadLength e → f.sender ≠ (s.binding e).sender →
      t.topics = s.topics.set e { x with intruders := min 255 (x.intruders + 1) } ∧
      (x.intruders ≠ 3 → s.onlyChanges t [.topics]) ∧
      (x.intruders = 3 →
        s.monitor.faults.onlyFault t.monitor.faults .topicContention true ∧
          s.link.onlyOffers t.link ∧ s.publisher.onlyAwaits t.publisher ∧
          s.onlyChanges t [.topics, .link, .publisher, .monitor])) ∧
    (f.payload.length = payloadLength e → f.sender = (s.binding e).sender →
      x.freshness = .fresh ∨ x.freshness = .late → x.lastSeq = some f.seq →
      t = s.setTopics (s.topics.set e { x with duplicates := bump x.duplicates }))

/-- A frame that an entry accepts: the entry is FRESH with the frame's sequence and decoded fields, its age timer
restarted, its heard mark set, and counts the frame, the gap modulo 16 in FRESH or LATE, and the clamped fields;
no other entry changes. When the frame sets the heard mark and every required entry is then heard, a SILENT link is
JOINED with its join wait stopped, and PEERS_MISSING of a JOINED link becomes inactive; in every other case the link
state, the join wait and PEERS_MISSING stay, and the mute timer and the failure count stay in all. The arrival then
starts what the table of R34 gives for the entry; where it goes to two blocks, their order is the model's (log entry 9).
The decoded fields of each entry, with the number of clamped ones: a value outside its range takes the nearest
end of it, an absent code and an echo above 15 give absent, the ABS byte gives its two lowest bits, and the offset
is carried plus 2. -/
def Obligations.EntriesAcceptNewFrames : Prop :=
  (∀ (s : State) (e : EntryName) (f : Frame), f.payload.length = payloadLength e →
    f.sender = (s.binding e).sender →
    let x := s.topics.get e
    let t := s.offerEntry e f
    let judged := x.freshness = .fresh ∨ x.freshness = .late
    let recomputed (u v : State) : Prop :=
      (u.selector.latch = .latched → v = u) ∧
        (u.selector.latch = .opened →
          v = (u.setSelector { u.selector with load := some u.loadRecord }).drawBudget)
    let echoed (c : Consumer) (u v : State) : Prop :=
      v.publisher.track c = (u.publisher.track c).arrival (u.topics.echo c) ∧
        (∀ d, d ≠ c → v.publisher.track d = u.publisher.track d) ∧
        u.monitor.faults.onlyFault v.monitor.faults (silentFault c)
          (decide ((v.publisher.track c).status = .silent)) ∧
        u.link.onlyOffers v.link ∧ u.onlyChanges v [.link, .publisher, .monitor]
    ¬(judged ∧ x.lastSeq = some f.seq) →
    (t.topics.get e).freshness = .fresh ∧ (t.topics.get e).lastSeq = some f.seq ∧
      (t.topics.get e).fields = (decodePayload e f.payload).1 ∧
      (t.topics.get e).acceptedAt = some s.now ∧ (t.topics.get e).heard = true ∧
      (t.topics.get e).accepted = bump x.accepted ∧
      (∀ last, judged → x.lastSeq = some last →
        (t.topics.get e).missed = min 65535 (x.missed + ((16 + f.seq.toNat - last.toNat - 1) % 16))) ∧
      (¬judged → x.missed ≤ 65535 → (t.topics.get e).missed = x.missed) ∧
      (t.topics.get e).clampedFields = min 65535 (x.clampedFields + (decodePayload e f.payload).2) ∧
      (∀ e', e' ≠ e → t.topics.get e' = s.topics.get e') ∧
      (x.heard = false → s.link.state = .silent →
        (∀ e', (s.binding e').required = true → (t.topics.get e').heard = true) →
        t.link.state = .joined ∧ t.link.joinWaitEnds = none) ∧
      (x.heard = false → s.link.state = .joined →
        (∀ e', (s.binding e').required = true → (t.topics.get e').heard = true) →
        t.conditionActive .peersMissing = false) ∧
      (let missing := ∃ e', (s.binding e').required = true ∧ (t.topics.get e').heard = false
       (x.heard = true ∨ s.link.state ≠ .silent ∨ missing →
         t.link.state = s.link.state ∧ t.link.joinWaitEnds = s.link.joinWaitEnds) ∧
       (x.heard = true ∨ s.link.state ≠ .joined ∨ missing →
         t.conditionActive .peersMissing = s.conditionActive .peersMissing)) ∧
      t.link.muteEnds = s.link.muteEnds ∧ t.link.failures = s.link.failures ∧ t.link.wire = s.link.wire ∧
      (e = .wheelSpeeds → s.conditionsTrue → t.conditionActive .speedLost = false) ∧
      s.onlyChanges t
        [.link, .topics, .selector, .estimator, .grip, .brake, .publisher, .monitor, .responder] ∧
      ∃ u : State, u.topics = s.topics.set e (t.topics.get e) ∧
        s.onlyChanges u [.link, .topics, .publisher, .monitor] ∧ s.publisher.onlyAwaits u.publisher ∧
        (x.heard = true → x.freshness ≠ .stale → u = s.setTopics u.topics) ∧
        (e = .inertialRates → t = u.estimate .a) ∧
        (e = .inertialLean →
          (u.topics.inertialRates.freshness = .fresh ∨ u.topics.inertialRates.freshness = .late → t = u) ∧
          (u.topics.inertialRates.freshness = .never ∨ u.topics.inertialRates.freshness = .stale →
            t = u.estimate .b)) ∧
        (e = .wheelSpeeds → t = u.latchArrival.windowArrival) ∧
        (e = .suspensionState → recomputed u t) ∧
        (e = .dashSelect → ∃ v, recomputed u v ∧ t = v.requestArrival.testAdoption) ∧
        (e = .engineState → ∃ v, echoed .engine u v ∧ t = v.testAdoption) ∧
        (e = .brakeState → ∃ v, echoed .brake u v ∧ t = v.absArrival) ∧
        (e = .inertialAccel → t = u)) ∧
  (∀ p : List Byte,
    let byte (i : Nat) : Nat := (p.getD i 0).toNat
    let word (i : Nat) : Nat := 256 * byte i + byte (i + 1)
    let field (absent : Prop) [Decidable absent] (lo hi raw : Int) : List (Option Int) × Nat :=
      if absent then ([none], 0)
      else ([some (max lo (min hi raw))], if raw < lo ∨ hi < raw then 1 else 0)
    let u16 (hi : Int) (i : Nat) := field (word i = 0xFFFF) 0 hi (word i)
    let i16 (bound : Int) (i : Nat) :=
      field (word i = 0x8000) (-bound) bound (if word i < 0x8000 then word i else (word i : Int) - 0x10000)
    let u8 (lo hi : Int) (i : Nat) := field (byte i = 0xFF) lo hi (byte i)
    let echo (i : Nat) := field (15 < byte i) 0 15 (byte i)
    let offset (i : Nat) := field (byte i = 0xFF) (-2) 2 ((byte i : Int) - 2)
    let abs (i : Nat) : List (Option Int) × Nat :=
      if byte i = 0xFF then ([none, none], 0)
      else ([some (byte i % 2), some (byte i / 2 % 2)], if 4 ≤ byte i then 1 else 0)
    let all (l : List (List (Option Int) × Nat)) : List (Option Int) × Nat :=
      (l.flatMap Prod.fst, (l.map Prod.snd).sum)
    decodePayload .wheelSpeeds p = all [u16 9000 0, u16 9000 2] ∧
      decodePayload .inertialRates p = all [i16 1500 0, i16 1500 2] ∧
      decodePayload .inertialAccel p = all [i16 2000 0] ∧
      decodePayload .inertialLean p = all [i16 650 0, u8 0 100 2] ∧
      decodePayload .engineState p = all [u16 3000 0, u16 3000 2, u8 0 6 4, echo 5] ∧
      decodePayload .brakeState p = all [u16 2000 0, u16 2000 2, u16 2000 4, u16 2000 6, abs 8, echo 9] ∧
      decodePayload .suspensionState p = all [u16 300 0] ∧
      decodePayload .dashSelect p = all [u8 1 4 0, u8 0 3 1, offset 2])

/-- DEADLINE_EXPIRY of a FRESH entry makes it LATE and counts the episode; nothing else changes. -/
def Obligations.FreshEntriesGoLate : Prop :=
  ∀ (e : EntryName) (s : State) (a : Nat), (s.topics.get e).freshness = .fresh →
    (s.topics.get e).acceptedAt = some a →
    exec (.deadlineExpiry e) s =
      .next ((s.setNow (max s.now (a + 10 * (s.binding e).deadline))).setTopics
        (s.topics.set e
          { s.topics.get e with
            freshness := .late
            lateEpisodes := bump (s.topics.get e).lateEpisodes }))

/-- STALE_EXPIRY of a LATE entry makes it STALE, counts the episode and notifies: SPEED_LOST for WHEEL_SPEEDS, a
SILENT consumer for ENGINE_STATE and BRAKE_STATE, a LOST record at the assumed lean for INERTIAL_RATES, an empty
request slot for DASH_SELECT, a new load record while the latch is OPEN; no other entry changes. -/
def Obligations.LateEntriesGoStaleWithNotice : Prop :=
  ∀ (e : EntryName) (s : State) (a : Nat), (s.topics.get e).freshness = .late →
    (s.topics.get e).acceptedAt = some a →
    ∃ t, exec (.staleExpiry e) s = .next t ∧ t.now = max s.now (a + 30 * (s.binding e).deadline) ∧
      t.topics =
        s.topics.set e
          { s.topics.get e with
            freshness := .stale
            staleEpisodes := bump (s.topics.get e).staleEpisodes } ∧
      (e = .wheelSpeeds → s.monitor.faults.onlyFault t.monitor.faults .speedLost true) ∧
      (e = .engineState →
        t.publisher.engine = { s.publisher.engine with status := .silent, matches' := 0 } ∧
          t.conditionActive .engineSilent = true) ∧
      (e = .brakeState →
        t.publisher.brake = { s.publisher.brake with status := .silent, matches' := 0 } ∧
          t.conditionActive .brakeSilent = true) ∧
      (e = .inertialRates →
        ∃ r, t.estimator.latest = some r ∧ r.cause = .c ∧ r.status = .lost ∧
          r.selected = s.profile.assumedLean ∧ r.kinematic = none ∧ r.pod = none ∧ r.integrated = none ∧
          t.estimator.base = none ∧ t.conditionActive .leanLost = true) ∧
      (e = .dashSelect → t.selector.request = none) ∧
      (e = .suspensionState ∨ e = .dashSelect →
        (s.selector.latch = .latched → t.selector.load = s.selector.load ∧ t.grip = s.grip) ∧
          (s.selector.latch = .opened → t.selector.load = some t.loadRecord)) ∧
      (e = .inertialAccel ∨ e = .inertialLean → s.onlyChanges t [.now, .topics]) ∧
      s.onlyChanges t [.now, .topics, .link, .selector, .estimator, .grip, .publisher, .monitor]

/-- Every entry stays as R20 and R26 describe it, at every step: absent throughout in NEVER, else with a sequence,
a running age timer and each field absent or within its range. -/
def Obligations.EntriesStayInOrder : Prop :=
  ∀ s t : State, s.entriesInOrder → step s = .next t → t.entriesInOrder

/-- A topic 10 frame of one byte, scope 1, from the sender bound to DASH_SELECT is a chassis reset: base and
disagreement run, corrections, regulation state, wheel states, echo lists and generator return to their start,
the four conditions become inactive, and every other part of each block stays, the awaited limit frames among
them. Any other topic 10 frame only counts as ignored. That the count of cancelled tests is 0 after a reset during
a test is DEDUCED (log entry 13): R167 counts the cancelled test and R169 returns the counts to 0. -/
def Obligations.ChassisResetReachesFiveBlocks : Prop :=
  ∀ (s : State) (f : Frame),
    let t := s.resetMessage f
    let valid := f.payload.length = 1 ∧ f.sender = (s.binding .dashSelect).sender ∧ f.payload[0]? = some 1
    (¬valid →
      t = s.setTopics { s.topics with ignoredResets := bump s.topics.ignoredResets }) ∧
    (valid →
      t.topics = { s.topics with announcedResets := bump s.topics.announcedResets } ∧
      t.estimator = { s.estimator with base := none, disagreementRun := 0 } ∧
      t.grip = { s.grip with table := List.replicate 14 ⟨0, false⟩ } ∧
      t.drive = { s.drive with state := .passive, working := none, holdCount := 0 } ∧
      t.brake =
        { s.brake with
          front := { s.brake.front with state := .passive, published := none, absMemory := false }
          rear := { s.brake.rear with state := .passive, published := none, absMemory := false } } ∧
      (∀ c, t.publisher.track c = ⟨[], .following, 0, 0, 0, 0, 0, 0, 0, 0, 0, 0⟩) ∧
      t.publisher.gripStateDue = s.publisher.gripStateDue ∧
      (s.link.inOrder → ∀ a ∈ s.publisher.awaited, a.topic = .driveLimit ∨ a.topic = .brakeLimit →
        a ∈ t.publisher.awaited) ∧
      t.generator = ⟨none, 0, s.generator.lastPath, none, false, 0, 0, 0⟩ ∧
      (∀ g, t.conditionActive g =
        (s.conditionActive g &&
          !(g == .leanDisagree || g == .leanLost || g == .engineSilent || g == .brakeSilent))) ∧
      (∀ g, (t.monitor.faults.get g).latched = (s.monitor.faults.get g).latched ∧
        (t.monitor.faults.get g).count = (s.monitor.faults.get g).count) ∧
      s.link.onlyOffers t.link ∧
      s.onlyChanges t
        [.topics, .estimator, .grip, .drive, .brake, .publisher, .generator, .link, .monitor])

/-! ### The Load and Mode Selector -/

/-- The load latch at a WHEEL_SPEEDS arrival: OPEN, it closes at 5.00 m/s or more; LATCHED, 1.00 m/s or more
stops the at-rest timer, and less starts it at 2000 ms unless it runs with no stale episode since; no load
record is made. An arrival without a front speed is not evaluated.
AT_REST_EXPIRY stops the timer. With WHEEL_SPEEDS STALE, or a stale episode since the timer started, that is
all; otherwise the latch opens, a new load record is made, and a budget is drawn from it once a lean record
exists. -/
def Obligations.LatchFollowsTheFrontSpeed : Prop :=
  (∀ s : State,
     let x := s.selector
     let stale := s.topics.wheelSpeeds.staleEpisodes
     (s.topics.frontSpeed = none → s.latchArrival = s) ∧
     ∀ v, s.topics.frontSpeed = some v →
       (x.latch = .opened → 500 ≤ v → s.latchArrival = s.setSelector { x with latch := .latched }) ∧
       (x.latch = .opened → v < 500 → s.latchArrival = s) ∧
       (x.latch = .latched → 100 ≤ v → s.latchArrival = s.setSelector { x with atRestEnds := none }) ∧
       (x.latch = .latched → v < 100 → x.atRestEnds.isSome = true → x.notedStale = stale →
         s.latchArrival = s) ∧
       (x.latch = .latched → v < 100 → x.atRestEnds = none ∨ x.notedStale ≠ stale →
         s.latchArrival =
           s.setSelector { x with atRestEnds := some (s.now + 20000), notedStale := stale })) ∧
  (∀ (s : State) (d : Nat), s.selector.atRestEnds = some d →
     ∃ t, exec .atRestExpiry s = .next t ∧ t.now = max s.now d ∧
       (s.topics.wheelSpeeds.freshness = .stale ∨
         s.topics.wheelSpeeds.staleEpisodes ≠ s.selector.notedStale →
         t.selector = { s.selector with atRestEnds := none } ∧ s.onlyChanges t [.now, .selector]) ∧
       (s.topics.wheelSpeeds.freshness ≠ .stale →
         s.topics.wheelSpeeds.staleEpisodes = s.selector.notedStale →
         t.selector =
             { s.selector with atRestEnds := none, latch := .opened, load := some s.loadRecord } ∧
           (s.estimator.latest = none → t.grip = s.grip) ∧
           (∀ r, s.estimator.latest = some r →
             t.grip.budgets = bump s.grip.budgets ∧
               ∃ b, t.grip.latest = some b ∧ b.leanTime = r.timeMade ∧ b.timeMade = t.stamp ∧
                 b.totalLoad = s.loadRecord.mass * 981 / 100) ∧
           s.onlyChanges t [.now, .selector, .grip]))

/-- The load record by the first source that gives one: the suspension's estimate with the row nearest to it (on a
tie the larger added mass, then the higher setting), the dash's load setting, else the SOLO row; the mass is
clamped to 250..800 kg. -/
def Obligations.LoadRecordTakesTheFirstSource : Prop :=
  ∀ s : State, s.profile.loadTable.length = 4 →
    let p := s.profile
    let apart (i a : Nat) : Nat := ((p.loadRow i).added - a) + (a - (p.loadRow i).added)
    let made (added i : Nat) (source : LoadSource) : LoadRecord :=
      ⟨max 250 (min 800 (p.baseMass + added)), (p.loadRow i).height, (p.loadRow i).rearShare, source⟩
    (∀ a, s.topics.addedMass = some a →
      ∃ i, i < 4 ∧ s.loadRecord = made a i .suspension ∧
        ∀ j, j < 4 →
          apart i a ≤ apart j a ∧
          (apart i a = apart j a → (p.loadRow j).added ≤ (p.loadRow i).added) ∧
          (apart i a = apart j a → (p.loadRow j).added = (p.loadRow i).added → j ≤ i)) ∧
    (∀ k, s.topics.addedMass = none → s.topics.loadSetting = some k →
      s.loadRecord = made (p.loadRow k).added k .dash) ∧
    (s.topics.addedMass = none → s.topics.loadSetting = none →
      s.loadRecord = made (p.loadRow 0).added 0 .default)

/-- A rider request under a loaded profile fills the slot, or empties it when it asks for what is in force; under
the fallback profile it is only counted, and one for WET and 0 does nothing. It is adopted with a present rider demand
at the drive floor or below when the last completed regulation step left PASSIVE, TRACKING or INHIBITED, or none has
been made since power-on, and waits otherwise, after a chassis reset too. -/
def Obligations.RequestsWaitForAQuietMoment : Prop :=
  ∀ s : State,
    let x := s.selector
    let left := s.drive.lastState.getD .passive
    (s.topics.dashMode = none ∨ s.topics.dashOffset = none → s.requestArrival = s) ∧
    (∀ m o, s.topics.dashMode = some m → s.topics.dashOffset = some o → s.loader.fallback = false →
      (Mode.ofNumber m = x.mode ∧ o = x.offset →
        (s.requestArrival).selector.request = none ∧
          (s.requestArrival).selector.requests = x.requests ∧
          (s.requestArrival).selector.withdrawals =
            if x.request = none then x.withdrawals else bump x.withdrawals) ∧
      (¬(Mode.ofNumber m = x.mode ∧ o = x.offset) →
        s.requestArrival =
          s.setSelector { x with request := some ⟨Mode.ofNumber m, o⟩, requests := bump x.requests })) ∧
    (∀ m o, s.topics.dashMode = some m → s.topics.dashOffset = some o → s.loader.fallback = true →
      (Mode.ofNumber m = .wet ∧ o = 0 → s.requestArrival = s) ∧
      (¬(Mode.ofNumber m = .wet ∧ o = 0) →
        s.requestArrival = s.setSelector { x with ignoredRequests := bump x.ignoredRequests })) ∧
    (∀ r d, x.request = some r →
      left = .passive ∨ left = .tracking ∨ left = .inhibited →
      s.topics.riderDemand = some d → d ≤ s.modeProfile.driveFloor →
      s.testAdoption =
        s.setSelector
          { x with mode := r.mode, offset := r.offset, request := none, adoptions := bump x.adoptions }) ∧
    (left = .cutting ∨ left = .holding ∨ left = .ramping → s.testAdoption = s) ∧
    (s.topics.riderDemand = none → s.testAdoption = s) ∧
    (∀ d, s.topics.riderDemand = some d → s.modeProfile.driveFloor < d → s.testAdoption = s)

/-! ### The Lean Estimator -/

/-- The lateral ratio, formed in two parts, is the floor of the exact quotient, and its intermediates stay within
32 bits; the manual's two examples come out. -/
def Obligations.LateralRatioIsTheExactFloor : Prop :=
  (∀ v w : Nat, v ≤ 9000 → w ≤ 1500 →
    lateralRatio v w = v * w * 18218 / 10000000 ∧ v * w / 10000 * 18218 < 2 ^ 32 ∧
      v * w / 10000 * 18218 % 1000 * 10000 + v * w % 10000 * 18218 < 200000000) ∧
  lateralRatio 2000 165 = 601 ∧ lateralRatio 1837 212 = 709 ∧ ∀ v, lateralRatio v 0 = 0

/-- The kinematic lean magnitude: 6500 from the last table entry on, else the largest whole degree whose tangent
entry is at most the ratio, with the hundredths between it and the next; its sign is that of the yaw rate. -/
def Obligations.LeanMagnitudeFollowsTheTangentTable : Prop :=
  (∀ q, 2196 ≤ q → leanOfRatio q = 6500) ∧
  (∀ q, q < 2196 →
    ∃ d, d ≤ 64 ∧ tanQ d ≤ q ∧ q < tanQ (d + 1) ∧
      leanOfRatio q = 100 * d + 100 * (q - tanQ d) / (tanQ (d + 1) - tanQ d) ∧ leanOfRatio q ≤ 6499) ∧
  ∀ (w : Int) (v : Nat), 300 ≤ v →
    kinematicCandidate (some w) (some v) =
      some (if w < 0 then -(leanOfRatio (lateralRatio v w.natAbs) : Int)
        else if w = 0 then 0 else leanOfRatio (lateralRatio v w.natAbs))

/-- The selection among the candidates: the median of three (FULL), the larger magnitude of two with the
kinematic and then the pod candidate on a tie (PAIR), the only one (SINGLE), the assumed lean (LOST). -/
def Obligations.SelectionByNumberOfCandidates : Prop :=
  ∀ (k p i : Int) (assumed : Nat),
    (∃ lo hi, [lo, (selectLean (some k) (some p) (some i) assumed).1, hi].Perm [k, p, i] ∧
      lo ≤ (selectLean (some k) (some p) (some i) assumed).1 ∧
      (selectLean (some k) (some p) (some i) assumed).1 ≤ hi) ∧
    (selectLean (some k) (some p) (some i) assumed).2 = .full ∧
    (p.natAbs ≤ k.natAbs → selectLean (some k) (some p) none assumed = (k, .pair)) ∧
    (k.natAbs < p.natAbs → selectLean (some k) (some p) none assumed = (p, .pair)) ∧
    (i.natAbs ≤ k.natAbs → selectLean (some k) none (some i) assumed = (k, .pair)) ∧
    (k.natAbs < i.natAbs → selectLean (some k) none (some i) assumed = (i, .pair)) ∧
    (i.natAbs ≤ p.natAbs → selectLean none (some p) (some i) assumed = (p, .pair)) ∧
    (p.natAbs < i.natAbs → selectLean none (some p) (some i) assumed = (i, .pair)) ∧
    selectLean (some k) none none assumed = (k, .single) ∧
    selectLean none (some p) none assumed = (p, .single) ∧
    selectLean none none (some i) assumed = (i, .single) ∧
    selectLean none none none assumed = ((assumed : Int), .lost)

/-- An estimate ends in one new record of its cause, made now, with the candidates that the entries give: at A the
kinematic one from the yaw rate and a front speed of 3.00 m/s or more, at A and B the pod's angle at a confidence
of 50 or more, at A the base carried forward by the roll rate, and else absent. The selection, the spread, the band
and the published lean follow from them; the disagreement run follows the spread, LEAN_LOST the status and
LEAN_DISAGREE the run; the base is replaced or, at a LOST record, discarded; and a budget is drawn
from the record once a load record exists. BASE_VALIDITY_EXPIRY discards the
base 20.0 ms after the record that made it. -/
def Obligations.EstimatesMakeOneRecord : Prop :=
  (∀ (s : State) (cause : LeanCause),
     let t := s.estimate cause
     let run := s.estimator.disagreementRun
     ∃ r, t.estimator.latest = some r ∧ r.cause = cause ∧ r.timeMade = s.stamp ∧
       (cause = .c → r.status = .lost) ∧ (cause = .b → r.kinematic = none ∧ r.integrated = none) ∧
       (r.status = .lost → r.selected = s.profile.assumedLean ∧ r.spread = none) ∧
       (cause = .a → ∀ w v, s.topics.yawRate = some w → s.topics.frontSpeed = some v → 300 ≤ v →
         r.kinematic = kinematicCandidate (some w) (some v)) ∧
       (cause ≠ .a ∨ s.topics.yawRate = none ∨ s.topics.frontSpeed = none ∨
         (∃ v, s.topics.frontSpeed = some v ∧ v < 300) → r.kinematic = none) ∧
       (cause ≠ .c → ∀ a c, s.topics.podAngle = some a → s.topics.podConfidence = some c → 50 ≤ c →
         r.pod = some (10 * a)) ∧
       (cause = .c ∨ s.topics.podAngle = none ∨ s.topics.podConfidence = none ∨
         (∃ c, s.topics.podConfidence = some c ∧ c < 50) → r.pod = none) ∧
       (cause = .a → ∀ p b, s.topics.rollRate = some p → s.estimator.base = some b →
         let dt : Nat := max 1 (min 200 (s.now - b.madeAt))
         r.integrated = some (max (-6500) (min 6500 (b.lean + (p * dt).tdiv 1000)))) ∧
       (cause ≠ .a ∨ s.topics.rollRate = none ∨ s.estimator.base = none → r.integrated = none) ∧
       (r.selected, r.status) = selectLean r.kinematic r.pod r.integrated s.profile.assumedLean ∧
       (let found := [r.kinematic, r.pod, r.integrated].filterMap id
        (found.length < 2 → r.spread = none) ∧
          (2 ≤ found.length →
            ∃ lo ∈ found, ∃ hi ∈ found, (∀ c ∈ found, lo ≤ c ∧ c ≤ hi) ∧ r.spread = some (hi - lo))) ∧
       r.band = r.selected.natAbs / 500 ∧
       r.published = (if r.selected < 0 then -((5 - r.selected) / 10) else (r.selected + 5) / 10) ∧
       t.estimator.disagreementRun =
         (match r.spread with
           | some d => if 800 < d then min 255 (run + 1) else 0
           | none => 0) ∧
       (t.conditionActive .leanLost = true ↔ r.status = .lost) ∧
       (t.conditionActive .leanDisagree = true ↔ 20 ≤ t.estimator.disagreementRun) ∧
       (r.status = .lost → t.estimator.base = none) ∧
       (r.status ≠ .lost → t.estimator.base = some ⟨r.selected, s.now⟩) ∧
       (∀ load, s.selector.load = some load →
         t.grip.budgets = bump s.grip.budgets ∧
           ∃ b, t.grip.latest = some b ∧ b.leanTime = r.timeMade ∧ b.band = r.band ∧
             b.leanMagnitude = r.selected.natAbs) ∧
       (s.selector.load = none → t.grip = s.grip) ∧
       s.onlyChanges t [.estimator, .grip, .link, .publisher, .monitor]) ∧
  (∀ (s : State) (b : LeanBase), s.estimator.base = some b →
     exec .baseValidityExpiry s =
       .next ((s.setNow (max s.now (b.madeAt + 200))).setEstimator { s.estimator with base := none }))

/-- The lean stays within -6500..6500 at every step, in the latest record and in the base, and so do the band and
the published lean formed from it. -/
def Obligations.LeanStaysInRange : Prop :=
  ∀ s t : State, s.profile.inRange → s.entriesInOrder → s.leanInRange → step s = .next t → t.leanInRange

/-! ### The Grip Budget Unit -/

/-- A breach notice lowers the correction of its band by 32, floored at -512, and marks the band; no other band
changes and no budget is drawn.
RELIEF_EXPIRY: a marked band is skipped, an unmarked one below 0 rises by 4 up to 0, every mark is cleared,
the timer restarts at 1000 ms, and no budget is drawn. -/
def Obligations.CorrectionsFallAndRise : Prop :=
  (∀ (s : State) (band : Nat) (sender : NoticeSender), s.grip.table.length = 14 → band < 14 →
     let t := s.breach band sender
     t.grip.table.length = 14 ∧
       t.grip.table[band]? = some ⟨max (-512) ((s.grip.entry band).corr - 32), true⟩ ∧
       (∀ b, b ≠ band → t.grip.table[b]? = s.grip.table[b]?) ∧ t.grip.latest = s.grip.latest ∧
       t.grip.budgets = s.grip.budgets ∧ t.grip.reliefEnds = s.grip.reliefEnds ∧
       ((s.grip.entry band).corr = -512 → t.grip.floorLimited = bump s.grip.floorLimited) ∧
       (sender = .drive → t.grip.driveNotices = bump s.grip.driveNotices) ∧
       (sender = .brake → t.grip.brakeNotices = bump s.grip.brakeNotices) ∧ s.onlyChanges t [.grip]) ∧
  (∀ (s : State) (d : Nat), s.grip.reliefEnds = some d →
     ∃ t, exec .reliefExpiry s = .next t ∧ t.now = max s.now d ∧
       t.grip.reliefEnds = some (t.now + 10000) ∧ t.grip.table.length = s.grip.table.length ∧
       (∀ (b : Nat) (e : BandCorrection), s.grip.table[b]? = some e →
         (e.mark = true → t.grip.table[b]? = some ⟨e.corr, false⟩) ∧
         (e.mark = false → e.corr < 0 → t.grip.table[b]? = some ⟨min 0 (e.corr + 4), false⟩) ∧
         (e.mark = false → 0 ≤ e.corr → t.grip.table[b]? = some ⟨e.corr, false⟩)) ∧
       t.grip.latest = s.grip.latest ∧ t.grip.reliefs = bump s.grip.reliefs ∧
       s.onlyChanges t [.now, .grip])

/-- Every correction stays within -512..0, and the table keeps its 14 bands, at every step. -/
def Obligations.CorrectionsStayInRange : Prop :=
  ∀ s t : State, s.grip.tableInRange → step s = .next t → t.grip.tableInRange

/-- The seven stages of a budget (R84..R91), under a running profile in its ranges: the effective grip of the band,
the lateral use interpolated in the tangent table, the allowance as the integer square root of what the friction
circle leaves, the static loads, the drive grip limit, the braking transfer, and the two brake limits with the
rear-light test. The new record replaces the latest and nothing else changes but the counts. -/
def Obligations.BudgetFollowsItsSevenStages : Prop :=
  (∀ l : Nat, l ≤ 6500 →
    lateralUseOf l = tanQ (l / 100) + (tanQ (l / 100 + 1) - tanQ (l / 100)) * (l % 100) / 100 ∧
      lateralUseOf l ≤ 2196) ∧
  lateralUseOf 3041 = 600 ∧ lateralUseOf 4500 = 1024 ∧
  (∀ mu u : Nat, mu ≤ 1536 →
    (mu ≤ u → allowanceOf mu u = 0) ∧
    (u < mu →
      allowanceOf mu u * allowanceOf mu u ≤ mu * mu - u * u ∧
        mu * mu - u * u < (allowanceOf mu u + 1) * (allowanceOf mu u + 1)) ∧
    (u = 0 → allowanceOf mu u = mu) ∧ allowanceOf mu u ≤ mu) ∧
  ∀ (s : State) (lean : LeanRecord) (load : LoadRecord), s.profile.inRange →
    s.estimator.latest = some lean → s.selector.load = some load →
    let p := s.profile
    let m := s.modeProfile
    let corrected : Int := (p.gripRow lean.band).muBase + (s.grip.entry lean.band).corr
    ∃ b, s.drawBudget.grip.latest = some b ∧ b.timeMade = s.stamp ∧ b.leanTime = lean.timeMade ∧
      b.band = lean.band ∧ b.leanMagnitude = lean.selected.natAbs ∧
      ((b.muEff : Int) = max 205 (min 1536 (corrected * (m.gripScale + 32 * s.selector.offset) / 1024))) ∧
      b.lateralUse = lateralUseOf b.leanMagnitude ∧ b.allowance = allowanceOf b.muEff b.lateralUse ∧
      (b.saturated = true ↔ b.muEff ≤ b.lateralUse) ∧
      b.totalLoad = load.mass * 981 / 100 ∧ b.rearLoad = b.totalLoad * load.rearShare / 1024 ∧
      b.frontLoad = b.totalLoad - b.rearLoad ∧
      b.driveGripLimit =
        max m.driveFloor (min m.driveMax (b.allowance * b.rearLoad / 1024 * p.rollingRadius / 1000)) ∧
      b.accelUsed = s.topics.longAccel ∧ (b.transferUnknown = true ↔ s.topics.longAccel = none) ∧
      (∀ a, s.topics.longAccel = some a → a < 0 →
        b.transfer = min (load.mass * a.natAbs * load.height / (100 * p.wheelbase)) b.rearLoad) ∧
      (∀ a, s.topics.longAccel = some a → 0 ≤ a → b.transfer = 0) ∧
      (s.topics.longAccel = none → b.transfer = 0) ∧
      b.frontBraking = b.frontLoad + b.transfer ∧ b.rearBraking = b.rearLoad - b.transfer ∧
      b.frontLimit =
        max m.frontFloor (min 2000 (b.allowance * b.frontBraking / 1024 * 10 / p.frontGain)) ∧
      (b.rearLight = true ↔ b.rearBraking < b.totalLoad / 10) ∧
      (b.rearLight = true → b.rearLimit = m.rearFloor) ∧
      (b.rearLight = false →
        b.rearLimit = max m.rearFloor (min 2000 (b.allowance * b.rearBraking / 1024 * 10 / p.rearGain))) ∧
      s.drawBudget.grip =
        { s.grip with
          latest := some b
          budgets := bump s.grip.budgets
          saturatedBudgets :=
            if b.saturated = true then bump s.grip.saturatedBudgets else s.grip.saturatedBudgets } ∧
      s.onlyChanges s.drawBudget [.grip]

/-- The load record and the budget record stay in their ranges at every step: the grip within 205..1536, the
allowance within the grip, the wheel loads adding up to the weight, the drive limit at most 3000, the brake
limits at most 2000, the rear-light mark exactly below a tenth of the weight. -/
def Obligations.BudgetStaysInRange : Prop :=
  ∀ s t : State, s.profile.inRange → s.entriesInOrder → s.leanInRange → s.loadInRange → s.budgetInRange →
    step s = .next t → t.loadInRange ∧ t.budgetInRange

/-! ### The Drive Regulator -/

/-- REGULATION_STEP without a recent budget, usable wheel speeds or an output path ends INHIBITED with the path
NONE; with them, in neutral or below 3.00 m/s, it ends PASSIVE on the chosen path. In both T_work is given up, no
notice is sent, the slip parts stay, and the step restarts its timer.
REGULATION_STEP with LATE wheel speeds past stages 1 to 3 freezes the state: no slip is measured, T_work only
falls to the drive grip limit, the hold is not counted, INHIBITED stays with the path NONE, every other state takes
the path that stage 2 chose, and the step restarts its timer. -/
def Obligations.StepsThatMeasureNoSlip : Prop :=
  (∀ (s : State) (due : Nat), s.drive.stepDue = some due →
     let u := s.setNow (max s.now due)
     let blind := s.grip.latest = none ∨ (∃ b, s.grip.latest = some b ∧ 200 < u.budgetAge b) ∨
       s.topics.frontSpeed = none ∨ s.topics.rearSpeed = none
     let bus := s.link.state = .joined ∧ s.publisher.engine.status ≠ .silent
     let quiet := s.topics.gear = some 0 ∨ ∃ v, s.topics.frontSpeed = some v ∧ v < 300
     let settled (t : State) (state : DriveState) (path : DrivePath) : Prop :=
       t.now = u.now ∧ t.drive.state = state ∧ t.drive.path = path ∧ t.drive.working = none ∧
         t.drive.holdCount = 0 ∧ t.drive.lastSlip = s.drive.lastSlip ∧
         t.drive.lastTarget = s.drive.lastTarget ∧ t.drive.lastBand = s.drive.lastBand ∧
         t.drive.lastDemand = 0 ∧ t.drive.stepDue = some (u.now + 50) ∧ t.generator.lastPath = path ∧
         s.link.onlyOffers t.link ∧
         s.onlyChanges t [.now, .drive, .link, .publisher, .generator, .monitor]
     (blind ∨ ¬bus ∧ s.modeProfile.cutPermission = 0 →
       ∃ t, exec .regulationStep s = .next t ∧ settled t .inhibited .none) ∧
     (¬blind → quiet → bus → ∃ t, exec .regulationStep s = .next t ∧ settled t .passive .bus) ∧
     (¬blind → quiet → ¬bus → s.modeProfile.cutPermission ≠ 0 →
       ∃ t, exec .regulationStep s = .next t ∧ settled t .passive .cutLine)) ∧
  (∀ (s : State) (due vf vr : Nat) (b : BudgetRecord), s.drive.stepDue = some due →
     s.grip.latest = some b → (s.setNow (max s.now due)).budgetAge b ≤ 200 →
     s.topics.wheelSpeeds.freshness = .late → s.topics.frontSpeed = some vf →
     s.topics.rearSpeed = some vr → 300 ≤ vf → s.topics.gear ≠ some 0 →
     (s.link.state = .joined ∧ s.publisher.engine.status ≠ .silent ∨ s.modeProfile.cutPermission ≠ 0) →
     s.drive.inOrder →
     ∃ t, exec .regulationStep s = .next t ∧ t.now = max s.now due ∧ t.drive.state = s.drive.state ∧
       t.drive.holdCount = s.drive.holdCount ∧
       t.drive.working = s.drive.working.map (fun w => min w b.driveGripLimit) ∧
       t.drive.lastSlip = s.drive.lastSlip ∧ t.drive.lastTarget = s.drive.lastTarget ∧
       t.drive.lastBand = s.drive.lastBand ∧ t.drive.frozenSteps = bump s.drive.frozenSteps ∧
       t.drive.stepDue = some (t.now + 50) ∧ (s.drive.state = .inhibited → t.drive.path = .none) ∧
       (s.drive.state ≠ .inhibited →
         (s.link.state = .joined ∧ s.publisher.engine.status ≠ .silent → t.drive.path = .bus) ∧
           (¬(s.link.state = .joined ∧ s.publisher.engine.status ≠ .silent) → t.drive.path = .cutLine)) ∧
       t.grip = s.grip ∧
       s.onlyChanges t [.now, .drive, .link, .publisher, .generator, .monitor])

/-- REGULATION_STEP at stage 4 with FRESH wheel speeds: the path is BUS while the link is JOINED and the engine
controller listens and CUT_LINE otherwise, the slip and its target are measured, and each regulation state moves as
the manual's table shows, with a breach notice exactly at an entry into CUTTING from TRACKING or RAMPING. -/
def Obligations.RegulationStepFollowsTheSlip : Prop :=
  ∀ (s : State) (due vf vr : Nat) (b : BudgetRecord), s.drive.stepDue = some due →
    s.grip.latest = some b → (s.setNow (max s.now due)).budgetAge b ≤ 200 →
    s.topics.wheelSpeeds.freshness = .fresh → s.topics.frontSpeed = some vf →
    s.topics.rearSpeed = some vr → 300 ≤ vf → s.topics.gear ≠ some 0 →
    (s.link.state = .joined ∧ s.publisher.engine.status ≠ .silent ∨ s.modeProfile.cutPermission ≠ 0) →
    s.drive.working.isSome = s.drive.state.limits →
    ∃ t, exec .regulationStep s = .next t ∧ t.now = max s.now due ∧
      t.drive.stepDue = some (t.now + 50) ∧ t.drive.lastBand = some b.band ∧
      (s.link.state = .joined ∧ s.publisher.engine.status ≠ .silent → t.drive.path = .bus) ∧
      (¬(s.link.state = .joined ∧ s.publisher.engine.status ≠ .silent) → t.drive.path = .cutLine) ∧
      let slip := if vf < vr then min 1024 ((vr - vf) * 1024 / vf) else 0
      let target := (s.profile.gripRow b.band).slipTarget * s.modeProfile.slipScale / 1024
      let m := s.modeProfile
      let limit := b.driveGripLimit
      let cut (x : Nat) : Nat := x * (1024 - m.cutFraction) / 1024
      let ends (state : DriveState) (working hold : Nat) : Prop :=
        t.drive.state = state ∧ t.drive.working = some working ∧ t.drive.holdCount = hold
      let rampsTo (working : Nat) : Prop :=
        ends (if working = limit then .tracking else .ramping) working 0
      t.drive.lastSlip = some slip ∧ t.drive.lastTarget = some target ∧
      (s.drive.state = .passive ∨ s.drive.state = .inhibited →
        t.drive.state = .tracking ∧ t.drive.working = some limit ∧ t.grip = s.grip) ∧
      (∀ w, s.drive.working = some w →
        (s.drive.state = .tracking → slip ≤ target →
          t.drive.state = .tracking ∧ t.drive.working = some (min limit (w + m.trackingRise)) ∧
            t.grip = s.grip) ∧
        (s.drive.state = .tracking ∨ s.drive.state = .ramping → target < slip →
          (∀ d, s.topics.deliveredTorque = some d → ends .cutting (cut (min (min w limit) d)) 0) ∧
            (s.topics.deliveredTorque = none → ends .cutting (cut (min w limit)) 0) ∧
            t.grip = (s.breach b.band .drive).grip) ∧
        (s.drive.state = .cutting ∨ s.drive.state = .holding → target < slip →
          ends .cutting (cut (min w limit)) 0 ∧ t.grip = s.grip) ∧
        (s.drive.state = .cutting → slip ≤ target →
          ends .holding (min w limit) m.holdSteps ∧ t.grip = s.grip) ∧
        (s.drive.state = .holding → slip ≤ target → 2 ≤ s.drive.holdCount →
          ends .holding (min w limit) (s.drive.holdCount - 1) ∧ t.grip = s.grip) ∧
        (s.drive.state = .holding → slip ≤ target → s.drive.holdCount = 1 →
          rampsTo (min limit (min w limit + m.recoveryRise)) ∧ t.grip = s.grip) ∧
        (s.drive.state = .ramping → slip ≤ target →
          rampsTo (min limit (w + m.recoveryRise)) ∧ t.grip = s.grip)) ∧
      s.onlyChanges t [.now, .drive, .grip, .link, .publisher, .generator, .monitor]

/-- The working limit after a regulation step lies within the drive grip limit of the budget that the step used,
and it rises over the limit before by no more than the tracking rise of the mode in force. -/
def Obligations.WorkingLimitIsBounded : Prop :=
  ∀ (s t : State) (w : Nat), s.drive.stepDue.isSome = true → s.drive.inOrder → s.profile.inRange →
    exec .regulationStep s = .next t → t.drive.working = some w →
    (∃ b, s.grip.latest = some b ∧ w ≤ b.driveGripLimit) ∧
      ∀ w₀, s.drive.working = some w₀ → w ≤ w₀ + s.modeProfile.trackingRise

/-- The drive value and the slot demand that a regulation step hands on: T_work, or NO LIMIT where it is absent,
as a DRIVE_LIMIT frame while JOINED and counted as withheld otherwise; on the cut line the rider demand above
T_work in eighths rounded up, the blind slots without a demand while cutting or holding, and 0 else; never more
than 8, and handed to the generator with the path, which takes it as HandoversDriveTheCutLine says. What a step leaves
is what the other blocks read of the channel until the next.
A brake step hands on one BRAKE_LIMIT frame with P_pub of each wheel, or NO LIMIT where it is absent, while
JOINED, and counts one withheld pair otherwise. -/
def Obligations.StepsHandOnTheirValues : Prop :=
  (∀ (s t : State), s.drive.stepDue.isSome = true → s.profile.inRange → s.link.inOrder →
     (∀ g ∈ s.link.queue, g.topic = .driveLimit → g.seq ≠ s.link.seqs.driveLimit + 1) →
     exec .regulationStep s = .next t →
     let d := t.drive
     let k := d.lastDemand
     let value := if d.state.limits then d.working.getD 65535 else 65535
     let n := s.link.seqs.driveLimit + 1
     k ≤ 8 ∧ t.generator.lastPath = d.path ∧ t.generator.latestDemand = k ∧
       (∃ atRest : Bool, (atRest = true ↔ ∃ v, s.topics.frontSpeed = some v ∧ v < 100) ∧
         t.generator = s.generator.handover d.path k atRest t.now s.profile.cutPeriod) ∧
       d.lastState = some d.state ∧ d.lastWorking = d.working ∧ d.lastHold = d.holdCount ∧
       (d.path ≠ .cutLine ∨ d.state.limits = false → k = 0) ∧
       (∀ r w, d.path = .cutLine → d.state.limits = true → s.topics.riderDemand = some r →
         d.working = some w →
         (r ≤ w → k = 0) ∧ (w < r → 8 * (r - w) ≤ k * r ∧ k * r < 8 * (r - w) + r)) ∧
       (d.path = .cutLine → s.topics.riderDemand = none →
         (d.state = .cutting ∨ d.state = .holding → k = s.profile.blindSlots) ∧
           (d.state = .tracking ∨ d.state = .ramping → k = 0)) ∧
       (s.link.state = .joined →
         ⟨.driveLimit, n, .drive value⟩ ∈ t.publisher.awaited ∧
           ⟨.driveLimit, n, [BitVec.ofNat 8 (value / 256), BitVec.ofNat 8 value]⟩ ∈ t.link.queue ∧
           t.publisher.engine = s.publisher.engine) ∧
       (s.link.state ≠ .joined →
         t.publisher.engine = { s.publisher.engine with withheld := bump s.publisher.engine.withheld }) ∧
       t.publisher.brake = s.publisher.brake) ∧
  (∀ (s t : State), s.brake.stepDue.isSome = true → s.link.inOrder →
     (∀ g ∈ s.link.queue, g.topic = .brakeLimit → g.seq ≠ s.link.seqs.brakeLimit + 1) →
     exec .brakeStep s = .next t →
     let value (w : Wheel) : Nat := if w.state.limits then w.published.getD 65535 else 65535
     let front := value t.brake.front
     let rear := value t.brake.rear
     let n := s.link.seqs.brakeLimit + 1
     (s.link.state = .joined →
       ⟨.brakeLimit, n, .brakes front rear⟩ ∈ t.publisher.awaited ∧
         ⟨.brakeLimit, n,
           [BitVec.ofNat 8 (front / 256), BitVec.ofNat 8 front, BitVec.ofNat 8 (rear / 256),
             BitVec.ofNat 8 rear]⟩ ∈ t.link.queue ∧
         t.publisher.brake = s.publisher.brake) ∧
     (s.link.state ≠ .joined →
       t.publisher.brake = { s.publisher.brake with withheld := bump s.publisher.brake.withheld }) ∧
     t.publisher.engine = s.publisher.engine ∧
     (∀ w ∈ [t.brake.front, t.brake.rear], w.lastState = some w.state ∧ w.lastPublished = w.published))

/-- The two channels stay as R104 and R130 describe them at every step: T_work and P_pub in the limiting states
alone, a hold count in HOLDING alone, INHIBITED with the path NONE and the limiting states with another, P_pub at
most 2000. -/
def Obligations.ChannelsStayInOrder : Prop :=
  ∀ s t : State, s.profile.inRange → s.drive.inOrder → s.brake.front.inOrder → s.brake.rear.inOrder →
    step s = .next t → t.drive.inOrder ∧ t.brake.front.inOrder ∧ t.brake.rear.inOrder

/-! ### The Brake Supervisor -/

/-- BRAKE_STEP: without a recent budget, a usable BRAKE_STATE, a JOINED link or a listening brake modulator both
wheels end INHIBITED; otherwise each wheel ends PASSIVE below 5.0 bar of demand, YIELDED with its limit held while
its ABS acts, and else at the limit slewed towards the computed one, ENGAGED or ADVISING by its applied pressure.
Every limit is held within the floor and 2000. -/
def Obligations.BrakeStepSupervisesEachWheel : Prop :=
  ∀ (s : State) (due : Nat), s.brake.stepDue = some due →
    let u := s.setNow (max s.now due)
    let m := s.modeProfile
    let closed := s.grip.latest = none ∨ (∃ b, s.grip.latest = some b ∧ 200 < u.budgetAge b) ∨
      ¬(s.topics.brakeState.freshness = .fresh ∨ s.topics.brakeState.freshness = .late) ∨
      s.link.state ≠ .joined ∨ s.publisher.brake.status = .silent
    let wheel (w w' : Wheel) (demand applied : Option Nat) (abs : Option Bool) (computed floor : Nat) : Prop :=
      let bounded (p : Nat) : Nat := if p < floor then floor else if 2000 < p then 2000 else p
      let slewed : Nat :=
        match w.published with
        | none => computed
        | some p =>
          if p < computed then min computed (p + m.brakeRise)
          else if w.state = .engaged then max computed (p - m.brakeFall) else computed
      (demand = none ∨ (∃ d, demand = some d ∧ d < 50) →
        w'.state = .passive ∧ w'.published = none ∧ w'.lastComputed = w.lastComputed ∧
          w'.lastApplied = w.lastApplied) ∧
      (∀ d, demand = some d → 50 ≤ d → abs = some true →
        w'.state = .yielded ∧ w'.published = some (bounded (w.published.getD computed)) ∧
          w'.lastComputed = w.lastComputed) ∧
      (∀ d, demand = some d → 50 ≤ d → abs ≠ some true →
        w'.published = some (bounded slewed) ∧ w'.lastComputed = some computed ∧
          w'.lastApplied = applied ∧
          (∀ a, applied = some a → bounded slewed ≤ a + 20 → w'.state = .engaged) ∧
          (∀ a, applied = some a → a + 20 < bounded slewed → w'.state = .advising) ∧
          (applied = none → w'.state = .advising)) ∧
      w'.absMemory = w.absMemory ∧ w'.absOnsets = w.absOnsets ∧ w'.breachNotices = w.breachNotices
    ∃ t, exec .brakeStep s = .next t ∧ t.now = u.now ∧ t.brake.stepDue = some (u.now + 50) ∧
      (closed →
        t.brake.front.state = .inhibited ∧ t.brake.rear.state = .inhibited ∧
          t.brake.front.published = none ∧ t.brake.rear.published = none) ∧
      (∀ b, ¬closed → s.grip.latest = some b →
        wheel s.brake.front t.brake.front s.topics.frontDemand s.topics.frontApplied s.topics.frontAbs
            b.frontLimit m.frontFloor ∧
          wheel s.brake.rear t.brake.rear s.topics.rearDemand s.topics.rearApplied s.topics.rearAbs
            b.rearLimit m.rearFloor) ∧
      s.onlyChanges t [.now, .brake, .link, .publisher, .monitor]

/-- A BRAKE_STATE arrival compares each ABS flag with its memory: a flag set over a clear memory is an onset,
which counts itself and, at a budget of band 2 or more, lowers that band once; both wheels can do so in one
frame. An absent flag leaves the memory, and the arrival changes no wheel state and no limit. That it does so before
the first brake step too is THE MODEL'S CHOICE (log entry 16). -/
def Obligations.AbsOnsetsSendNotices : Prop :=
  ∀ s : State,
    let t := s.absArrival
    let begins (abs : Option Bool) (w : Wheel) : Prop := abs = some true ∧ w.absMemory = false
    let notices := ∃ b, s.grip.latest = some b ∧ 2 ≤ b.band
    let after (w w' : Wheel) (abs : Option Bool) : Prop :=
      w'.state = w.state ∧ w'.published = w.published ∧ w'.absMemory = abs.getD w.absMemory ∧
        (begins abs w → w'.absOnsets = bump w.absOnsets ∧
          (notices → w'.breachNotices = bump w.breachNotices)) ∧
        (¬begins abs w → w'.absOnsets = w.absOnsets) ∧
        (¬(begins abs w ∧ notices) → w'.breachNotices = w.breachNotices)
    after s.brake.front t.brake.front s.topics.frontAbs ∧
      after s.brake.rear t.brake.rear s.topics.rearAbs ∧
      (¬notices ∨ ¬begins s.topics.frontAbs s.brake.front ∧ ¬begins s.topics.rearAbs s.brake.rear →
        t.grip = s.grip) ∧
      (∀ b, s.grip.latest = some b → 2 ≤ b.band →
        (begins s.topics.frontAbs s.brake.front → begins s.topics.rearAbs s.brake.rear →
          t.grip = ((s.breach b.band .brake).breach b.band .brake).grip) ∧
        (begins s.topics.frontAbs s.brake.front → ¬begins s.topics.rearAbs s.brake.rear →
          t.grip = (s.breach b.band .brake).grip) ∧
        (¬begins s.topics.frontAbs s.brake.front → begins s.topics.rearAbs s.brake.rear →
          t.grip = (s.breach b.band .brake).grip)) ∧
      s.onlyChanges t [.brake, .grip]

/-! ### The Limit Publisher -/

/-- GRIP_STATE and LT_STATUS at the expiry of their timers: the timer restarts, and a frame of the fixed length is
offered in every link state, taken in SILENT and JOINED and dropped in MUTED. GRIP_STATE carries the published
lean, the status byte, and band, age and limits of the latest budget, or absent codes; LT_STATUS the latched marks,
the lamp, the degradation level of the table of R177, the drive path and the mode in force. -/
def Obligations.PeriodicFramesAreOffered : Prop :=
  (∀ t : State,
    let p := t.gripStatePayload
    let byte (i : Nat) : Nat := (p.getD i 0).toNat
    let word (i : Nat) : Nat := 256 * byte i + byte (i + 1)
    (t.estimator.latest = none → word 0 = 0x8000 ∧ byte 2 % 8 = 7) ∧
    (∀ r, t.estimator.latest = some r →
      (word 0 : Int) = r.published % 0x10000 ∧
        byte 2 % 8 = (match r.status with | .full => 0 | .pair => 1 | .single => 2 | .lost => 3)) ∧
    (t.grip.latest = none →
      byte 2 / 8 = 8 ∧ byte 3 = 0xFF ∧ byte 4 = 0xFF ∧ word 5 = 0xFFFF ∧ word 7 = 0xFFFF ∧ word 9 = 0xFFFF) ∧
    (∀ b, t.grip.latest = some b → b.inRange →
      byte 2 / 8 =
          (if b.saturated then 1 else 0) + (if b.transferUnknown then 2 else 0) +
            (if b.rearLight then 4 else 0) ∧
        byte 3 = b.band ∧ byte 4 = min 254 (t.budgetAge b / 10) ∧ word 5 = b.driveGripLimit ∧
        word 7 = b.frontLimit ∧ word 9 = b.rearLimit)) ∧
  (∀ t : State,
    let p := t.ltStatusPayload
    let byte (i : Nat) : Nat := (p.getD i 0).toNat
    let m := t.monitor
    let degraded := ∀ r, t.estimator.latest = some r → r.status = .single ∨ r.status = .lost
    (∀ k f, Fault12.all[k]? = some f →
      (256 * byte 0 + byte 1).testBit k = (m.faults.get f).latched) ∧
    256 * byte 0 + byte 1 < 4096 ∧
    byte 2 = (match m.lamp with | .off => 0 | .steady => 1 | .flashing => 2) ∧
    (m.driveState = .inhibited ∧ m.frontWheel = .inhibited ∧ m.rearWheel = .inhibited → byte 3 = 2) ∧
    (¬(m.driveState = .inhibited ∧ m.frontWheel = .inhibited ∧ m.rearWheel = .inhibited) →
      (m.driveState = .inhibited ∨ m.frontWheel = .inhibited ∨ m.rearWheel = .inhibited ∨
        m.drivePath = .cutLine ∨ degraded → byte 3 = 1) ∧
      (¬(m.driveState = .inhibited ∨ m.frontWheel = .inhibited ∨ m.rearWheel = .inhibited ∨
        m.drivePath = .cutLine ∨ degraded) → byte 3 = 0)) ∧
    byte 4 = (match m.drivePath with | .bus => 0 | .cutLine => 1 | .none => 2) ∧
    byte 5 = (match t.selector.mode with | .wet => 1 | .road => 2 | .tour => 3 | .dynamic => 4)) ∧
  ∀ (s : State) (d : Nat), s.link.inOrder →
    (s.publisher.gripStateDue = some d →
      ∃ t, exec .gripState s = .next t ∧ t.now = max s.now d ∧
        t.publisher.gripStateDue = some (t.now + 200) ∧ t.publisher.engine = s.publisher.engine ∧
        t.publisher.brake = s.publisher.brake ∧ t.gripStatePayload.length = 11 ∧
        (s.link.state = .silent ∨ s.link.state = .joined → s.link.queue.length ≤ 3 →
          ⟨.gripState, s.link.seqs.gripState + 1, t.gripStatePayload⟩ ∈ t.link.queue) ∧
        (s.link.state = .muted → t.link.counters.dropped = bump s.link.counters.dropped) ∧
        s.link.onlyOffers t.link ∧ s.onlyChanges t [.now, .link, .publisher]) ∧
    (s.monitor.ltStatusDue = some d →
      ∃ t, exec .ltStatus s = .next t ∧ t.now = max s.now d ∧
        t.monitor.ltStatusDue = some (t.now + 1000) ∧ t.monitor.faults = s.monitor.faults ∧
        t.monitor.lamp = s.monitor.lamp ∧ t.ltStatusPayload.length = 6 ∧
        (s.link.state = .silent ∨ s.link.state = .joined → s.link.queue.length ≤ 3 →
          ⟨.ltStatus, s.link.seqs.ltStatus + 1, t.ltStatusPayload⟩ ∈ t.link.queue) ∧
        (s.link.state = .muted → t.link.counters.dropped = bump s.link.counters.dropped) ∧
        s.link.onlyOffers t.link ∧ s.publisher.onlyAwaits t.publisher ∧
        s.onlyChanges t [.now, .link, .publisher, .monitor])

/-- The echo lists: a delivery removes an entry of its own sequence and then the oldest of four, each as a miss, and
is appended; an arrival without an echo lengthens the absent run, one with an echo ends the run and has the
echo judged: a present echo that meets an empty list, lies 8 or more behind the newest or names no entry is a stray
and changes its count alone; any other removes its entry and the older ones as a match.
The consumer status: a miss makes FOLLOWING LAGGING and, the third in a row, LAGGING SILENT; a match makes
LAGGING FOLLOWING and, the fourth since it was last found silent, SILENT FOLLOWING; the third absent echo in a row
makes it SILENT from any status. -/
def Obligations.EchoListsDecideTheStatus : Prop :=
  (∀ t : Track, (t.echoes.map EchoEntry.seq).Nodup →
     (∀ e : EchoEntry,
       (t.deliver e).echoes =
           (let kept := t.echoes.filter fun x => x.seq != e.seq
            (if 4 ≤ kept.length then kept.tail else kept) ++ [e]) ∧
         ((∀ x ∈ t.echoes, x.seq ≠ e.seq) → t.echoes.length ≤ 3 →
           t.deliver e = { t with echoes := t.echoes ++ [e], deliveries := bump t.deliveries }) ∧
         ((∀ x ∈ t.echoes, x.seq ≠ e.seq) → t.echoes.length = 4 →
           (t.deliver e).overruns = bump t.overruns ∧ (t.deliver e).misses = min 255 (t.misses + 1) ∧
             (t.deliver e).matches' = 0 ∧ (t.deliver e).status = t.miss.status ∧
             (t.deliver e).replaced = t.replaced) ∧
         ((∃ x ∈ t.echoes, x.seq = e.seq) → t.echoes.length ≤ 4 →
           (t.deliver e).replaced = bump t.replaced ∧ (t.deliver e).misses = min 255 (t.misses + 1) ∧
             (t.deliver e).matches' = 0 ∧ (t.deliver e).status = t.miss.status ∧
             (t.deliver e).overruns = t.overruns) ∧
         (t.deliver e).deliveries = bump t.deliveries) ∧
     ∀ e : Seq,
       let stray := t.echoes = [] ∨
         (∃ newest, t.echoes.getLast? = some newest ∧ 8 ≤ (16 + newest.seq.toNat - e.toNat) % 16) ∨
         ∀ x ∈ t.echoes, x.seq ≠ e
       (stray → t.judgeEcho e = { t with strays := bump t.strays }) ∧
       (¬stray →
         ∃ older x newer, t.echoes = older ++ x :: newer ∧ x.seq = e ∧
           (t.judgeEcho e).echoes = newer ∧ (t.judgeEcho e).misses = 0 ∧
           (t.judgeEcho e).matches' = min 255 (t.matches' + 1) ∧
           (t.judgeEcho e).matchCount = bump t.matchCount ∧ (t.judgeEcho e).strays = t.strays)) ∧
  (∀ t : Track,
     (t.status = .following → t.miss.status = .lagging) ∧
     (t.status = .lagging → t.misses + 1 < 3 → t.miss.status = .lagging) ∧
     (t.status = .lagging → 3 ≤ t.misses + 1 → t.miss.status = .silent) ∧
     (t.status = .silent → t.miss.status = .silent) ∧ t.miss.matches' = 0 ∧
     t.miss.misses = min 255 (t.misses + 1) ∧
     (∀ e, isStray t.echoes e = false →
       (t.status ≠ .silent → (t.judgeEcho e).status = .following) ∧
       (t.status = .silent → t.matches' + 1 < 4 → (t.judgeEcho e).status = .silent) ∧
       (t.status = .silent → 4 ≤ t.matches' + 1 → (t.judgeEcho e).status = .following)) ∧
     (∀ e, isStray t.echoes e = true → (t.judgeEcho e).status = t.status) ∧
     (t.arrival none).absentRun = min 255 (t.absentRun + 1) ∧
     (t.absentRun = 2 → (t.arrival none).status = .silent ∧ (t.arrival none).matches' = 0) ∧
     (t.absentRun ≠ 2 → (t.arrival none).status = t.status) ∧
     ∀ e, (t.arrival (some e)).absentRun = 0 ∧
       t.arrival (some e) = ({ t with absentRun := 0 }).judgeEcho (BitVec.ofNat 4 e))

/-- ECHO_DEADLINE_EXPIRY removes the oldest entry of the list 30 ms after its delivery as a miss of its consumer,
whose SILENT condition follows its status; the other consumer's list stays. -/
def Obligations.EchoDeadlinesCountMisses : Prop :=
  ∀ (c : Consumer) (s : State) (e : EchoEntry) (rest : List EchoEntry),
    (s.publisher.track c).echoes = e :: rest →
    ∃ t, exec (.echoDeadlineExpiry c) s = .next t ∧ t.now = max s.now (e.deliveredAt + 300) ∧
      (t.publisher.track c).echoes = rest ∧
      (t.publisher.track c).status = (s.publisher.track c).miss.status ∧
      (t.publisher.track c).misses = min 255 ((s.publisher.track c).misses + 1) ∧
      (t.publisher.track c).matches' = 0 ∧
      (t.publisher.track c).deadlineMisses = bump (s.publisher.track c).deadlineMisses ∧
      (∀ d, d ≠ c → t.publisher.track d = s.publisher.track d) ∧
      s.monitor.faults.onlyFault t.monitor.faults (silentFault c)
        (decide ((t.publisher.track c).status = .silent)) ∧
      s.link.onlyOffers t.link ∧ s.onlyChanges t [.now, .link, .publisher, .monitor]

/-- Both echo lists hold at most four entries of distinct sequences in order of delivery, and a FOLLOWING consumer
has no miss in a row, at every step. -/
def Obligations.EchoListsStayInOrder : Prop :=
  ∀ s t : State, s.linkInOrder → s.tracksInOrder → step s = .next t → t.tracksInOrder

/-! ### The cut pattern generator -/

/-- A handover to the generator: IDLE, a demand of 1 or more on the cut line starts a period; in a regulation
period a higher demand lengthens it and a lower one waits; another path makes it IDLE at once; and a running test
is cancelled by the cut line or by a front wheel that no longer stands. That the released line stays released when
the new end of the assertion falls exactly on the handover is DEDUCED (log entry 14). -/
def Obligations.HandoversDriveTheCutLine : Prop :=
  ∀ (g : Generator) (path : DrivePath) (k now period : Nat) (atRest : Bool),
    let h := g.handover path k atRest now period
    let asserts (slots start : Nat) : Prop :=
      h.assertionEnds = some (start + slots * (period / 8) * 10) ∧ h.asserted = true
    let idles := h.run = none ∧ h.assertionEnds = none ∧ h.asserted = false
    h.lastPath = path ∧ h.latestDemand = k ∧
    (g.run = none → path = .cutLine → 1 ≤ k →
      h.run = some ⟨.regulation, k, now⟩ ∧ asserts k now ∧
        h.regulationPeriods = bump g.regulationPeriods) ∧
    (g.run = none → path ≠ .cutLine ∨ k = 0 → h = { g with lastPath := path, latestDemand := k }) ∧
    (∀ slots start, g.run = some ⟨.regulation, slots, start⟩ →
      (path ≠ .cutLine → idles) ∧
      (path = .cutLine → k ≤ slots → h = { g with lastPath := path, latestDemand := k }) ∧
      (path = .cutLine → slots < k →
        h.run = some ⟨.regulation, k, start⟩ ∧
          (g.asserted = true ∨ now < start + k * (period / 8) * 10 → asserts k start) ∧
          (g.asserted = false → start + k * (period / 8) * 10 ≤ now →
            h.asserted = false ∧ h.assertionEnds = g.assertionEnds))) ∧
    (∀ slots start, g.run = some ⟨.test, slots, start⟩ →
      (path ≠ .cutLine → atRest = true → h = { g with lastPath := path, latestDemand := k }) ∧
      (path ≠ .cutLine → atRest = false → idles ∧ h.cancelledTests = bump g.cancelledTests) ∧
      (path = .cutLine → h.cancelledTests = bump g.cancelledTests ∧
        (k = 0 → idles) ∧ (1 ≤ k → h.run = some ⟨.regulation, k, now⟩ ∧ asserts k now)))

/-- ASSERTION_END_EXPIRY releases the line and leaves the period running. CUT_PERIOD_EXPIRY starts the next period
with the latest demand, or makes the generator IDLE at a demand of 0 and at the end of a test; the Monitor hears
whether a regulation cut is active. -/
def Obligations.CutPeriodsRunOut : Prop :=
  ∀ s : State,
    (∀ d, s.generator.assertionEnds = some d →
      exec .assertionEndExpiry s =
        .next ((s.setNow (max s.now d)).setGenerator
          { s.generator with assertionEnds := none, asserted := false })) ∧
    ∀ purpose slots start, s.generator.run = some ⟨purpose, slots, start⟩ →
      ∃ t, exec .cutPeriodExpiry s = .next t ∧ t.now = max s.now (start + s.profile.cutPeriod * 10) ∧
        t.generator.lastPath = s.generator.lastPath ∧
        t.generator.latestDemand = s.generator.latestDemand ∧
        (purpose = .regulation → 1 ≤ s.generator.latestDemand →
          t.generator.run = some ⟨.regulation, s.generator.latestDemand, t.now⟩ ∧
            t.generator.asserted = true ∧
            t.generator.assertionEnds =
              some (t.now + s.generator.latestDemand * (s.profile.cutPeriod / 8) * 10) ∧
            t.generator.regulationPeriods = bump s.generator.regulationPeriods ∧
            t.monitor.regulationCut = true) ∧
        (purpose = .test ∨ s.generator.latestDemand = 0 →
          t.generator.run = none ∧ t.generator.asserted = false ∧ t.generator.assertionEnds = none ∧
            t.monitor.regulationCut = false) ∧
        t.monitor.faults = s.monitor.faults ∧ s.link.onlyOffers t.link ∧
        s.publisher.onlyAwaits t.publisher ∧
        s.onlyChanges t [.now, .generator, .link, .publisher, .monitor]

/-- A CUT_TEST request is taken while no regulation period runs, the last path is not the cut line and the front
wheel stands below 1.00 m/s: one period of purpose TEST starts with 1..8 slots and the reply is OK. Otherwise the
generator stays as it is and the reply is NOT_AT_REST. -/
def Obligations.CutTestsNeedAStandingWheel : Prop :=
  ∀ (s : State) (r : Request),
    let t := s.serveTest r
    let taken := (∀ slots start, s.generator.run ≠ some ⟨.regulation, slots, start⟩) ∧
      s.generator.lastPath ≠ .cutLine ∧ ∃ v, s.topics.frontSpeed = some v ∧ v < 100
    let k := if r.data.toNat = 0 then 1 else if 8 < r.data.toNat then 8 else r.data.toNat
    (taken →
      t.generator =
        { s.generator with
          run := some ⟨.test, k, s.now⟩
          assertionEnds := some (s.now + k * (s.profile.cutPeriod / 8) * 10)
          asserted := true
          testPeriods := bump s.generator.testPeriods } ∧
      t.link = (s.offer .serviceReply [r.tag, 0, r.record, r.offset]).link) ∧
    (¬taken →
      t.generator = s.generator ∧ t.link = (s.offer .serviceReply [r.tag, 7, r.record, r.offset]).link) ∧
    s.onlyChanges t [.generator, .link, .publisher, .responder]

/-- The cut line is asserted only while the generator runs, with its assertion end timer running, for 1..8 slots
and at a demand of 0..8, at every step. It is asserted only while the regulator's output path is CUT_LINE or a cut
test runs: at every step the path of the last handover is the regulator's, and a regulation period runs on
CUT_LINE alone, as at reset. -/
def Obligations.GeneratorStaysInOrder : Prop :=
  (∀ s t : State, s.profile.inRange → s.generator.inOrder → step s = .next t → t.generator.inOrder) ∧
  (∀ s t : State, s.cutOnItsPath → step s = .next t → t.cutOnItsPath) ∧ State.reset.cutOnItsPath ∧
  ∀ s : State, s.cutOnItsPath → s.generator.lineSafe → s.generator.asserted = true →
    s.drive.path = .cutLine ∨ ∃ slots start, s.generator.run = some ⟨.test, slots, start⟩

/-! ### The Fault Monitor -/

/-- A condition report and a CLEAR_FAULTS request: a fault becoming active is latched and counted once, becoming
inactive it keeps its latched mark and its count; the clear removes the latched marks of the inactive faults alone,
and its reply carries, in two bytes, the latched marks that remain, bit k for the k-th fault.
No other fault changes, and the lamp is brought up to date with each. -/
def Obligations.FaultsAreLatchedAndCleared : Prop :=
  ∀ (s : State) (f : Fault12),
    let m := s.monitor.faults.get f
    ((s.report f true).monitor.faults.get f =
      if m.active then m else ⟨true, true, min 255 (m.count + 1)⟩) ∧
    ((s.report f false).monitor.faults.get f = ⟨false, m.latched, m.count⟩) ∧
    (∀ b g, g ≠ f → (s.report f b).monitor.faults.get g = s.monitor.faults.get g) ∧
    (∀ b, (s.report f b).lampTrue ∧ s.onlyChanges (s.report f b) [.link, .publisher, .monitor]) ∧
    ∀ r : Request,
      ((s.serveClear r).monitor.faults.get f = if m.active then m else ⟨false, false, m.count⟩) ∧
        (s.serveClear r).lampTrue ∧
        (s.serveClear r).monitor.clearRequests = bump s.monitor.clearRequests ∧
        (s.serveClear r).responder = { s.responder with replies := bump s.responder.replies } ∧
        (∃ (u : State) (hi lo : Byte), s.link.onlyOffers u.link ∧
          (s.serveClear r).link = (u.offer .serviceReply [r.tag, 0, r.record, r.offset, hi, lo]).link ∧
          ∀ k g, Fault12.all[k]? = some g →
            (256 * hi.toNat + lo.toNat).testBit k = ((s.serveClear r).monitor.faults.get g).latched) ∧
        s.onlyChanges (s.serveClear r) [.link, .publisher, .monitor, .responder]

/-- At every step the rider lamp is the one that the table gives for the fault set and the channel copy, the channel
copy holds what the channels and the generator hold, ENGINE_SILENT, BRAKE_SILENT, LINK_MUTED, SPEED_LOST and
PROFILE_FALLBACK are active exactly while their blocks stand so, and every active fault is latched. That a step
after a chassis reset is reported against the state that the reset left is DEDUCED (log entry 15). -/
def Obligations.MonitorStaysTrue : Prop :=
  (∀ s t : State, s.copyTrue → s.lampTrue → step s = .next t → t.copyTrue ∧ t.lampTrue) ∧
  (∀ s t : State, s.linkInOrder → s.conditionsTrue → step s = .next t → t.conditionsTrue)
end

