-- ==== Sys2Proof/Laws/Memory.lean ====
section
/-! SUPPORT. The laws of byte stores: a write keeps the canonical form, reads back, and leaves every other
address alone. -/

namespace Sys2Proof.Machine

theorem Memory.nil_wf : Memory.wf [] := ⟨List.Pairwise.nil, fun _ h => nomatch h⟩

theorem Memory.wf_tail {c : Host.Cell} {m : Memory} (h : Memory.wf (c :: m)) : Memory.wf m :=
  ⟨(List.pairwise_cons.mp h.1).2, fun d hd => h.2 d (List.mem_cons_of_mem _ hd)⟩

/-- Every address that a write leaves listed was listed before or is the one written. -/
theorem Memory.mem_write {m : Memory} {x : Nat} {v : Byte} {c : Host.Cell} (h : c ∈ m.write x v) :
    c ∈ m ∨ (c = (x, v) ∧ v ≠ erasedByte) := by
  induction m with
  | nil =>
    simp only [Memory.write] at h
    split at h <;> simp_all
  | cons d rest ih =>
    obtain ⟨a, b⟩ := d
    simp only [Memory.write] at h
    repeat' split at h
    all_goals simp only [List.mem_cons] at h ⊢
    · tauto
    · tauto
    · tauto
    · tauto
    · rcases h with h | h
      · tauto
      · rcases ih h with h | h <;> tauto

theorem Memory.write_wf {m : Memory} (h : m.wf) (x : Nat) (v : Byte) : (m.write x v).wf := by
  refine ⟨?_, fun c hc => ?_⟩
  · induction m with
    | nil => simp only [Memory.write]; split <;> simp
    | cons d rest ih =>
      obtain ⟨a, b⟩ := d
      have hr := Memory.wf_tail h
      have hlt := (List.pairwise_cons.mp h.1).1
      simp only [Memory.write]
      repeat' split
      · exact h.1
      · refine List.pairwise_cons.mpr ⟨fun c hc => ?_, h.1⟩
        rcases List.mem_cons.mp hc with rfl | hc
        · assumption
        · exact Nat.lt_trans ‹x < a› (hlt c hc)
      · exact hr.1
      · subst_vars
        exact List.pairwise_cons.mpr ⟨hlt, hr.1⟩
      · refine List.pairwise_cons.mpr ⟨fun c hc => ?_, ih hr⟩
        rcases Memory.mem_write hc with hc | ⟨rfl, -⟩
        · exact hlt c hc
        · show a < x
          omega
  · rcases Memory.mem_write hc with hc | ⟨rfl, hv⟩
    · exact h.2 c hc
    · exact hv

theorem Memory.writeBytes_wf {m : Memory} (h : m.wf) (x : Nat) (l : List Byte) : (m.writeBytes x l).wf := by
  induction l generalizing m x with
  | nil => exact h
  | cons v vs ih => exact ih (Memory.write_wf h x v) (x + 1)

/-- A write leaves every other address alone. -/
theorem Memory.read_write_other (m : Memory) {x y : Nat} (v : Byte) (h : y ≠ x) :
    (m.write x v).read y = m.read y := by
  induction m with
  | nil =>
    simp only [Memory.write]
    split
    · rfl
    · simp [Memory.read, Ne.symm h]
  | cons d rest ih =>
    obtain ⟨a, b⟩ := d
    simp only [Memory.write]
    repeat' split
    · rfl
    · simp [Memory.read, Ne.symm h]
    · subst_vars; simp [Memory.read, Ne.symm h]
    · subst_vars; simp [Memory.read, Ne.symm h]
    · simp only [Memory.read]; split
      · rfl
      · exact ih

/-- An address below every listed one reads as the erased byte. -/
theorem Memory.read_unlisted {m : Memory} {x : Nat} (h : ∀ c ∈ m, x < c.1) : m.read x = erasedByte := by
  induction m with
  | nil => rfl
  | cons d rest ih =>
    obtain ⟨a, b⟩ := d
    have : x < a := h (a, b) List.mem_cons_self
    simp only [Memory.read]
    rw [if_neg (by omega)]
    exact ih fun c hc => h c (List.mem_cons_of_mem _ hc)

/-- A byte written reads back. -/
theorem Memory.read_write_same {m : Memory} (h : m.wf) (x : Nat) (v : Byte) : (m.write x v).read x = v := by
  induction m with
  | nil => simp only [Memory.write]; split <;> simp_all [Memory.read]
  | cons d rest ih =>
    obtain ⟨a, b⟩ := d
    have hlt := (List.pairwise_cons.mp h.1).1
    simp only [Memory.write]
    repeat' split
    · subst_vars
      refine Memory.read_unlisted fun c hc => ?_
      rcases List.mem_cons.mp hc with rfl | hc
      · assumption
      · exact Nat.lt_trans ‹x < a› (hlt c hc)
    · simp [Memory.read]
    · subst_vars
      exact Memory.read_unlisted hlt
    · simp [Memory.read]
    · have : ¬ a = x := fun e => ‹¬ x = a› e.symm
      simp only [Memory.read]
      rw [if_neg this]
      exact ih (Memory.wf_tail h)

/-- A run of bytes written leaves every address outside it alone. -/
theorem Memory.read_writeBytes_other (m : Memory) (x y : Nat) (l : List Byte)
    (h : y < x ∨ x + l.length ≤ y) : (m.writeBytes x l).read y = m.read y := by
  induction l generalizing m x with
  | nil => rfl
  | cons v vs ih =>
    simp only [List.length_cons] at h
    simp only [Memory.writeBytes]
    rw [ih (m.write x v) (x + 1) (by omega)]
    exact Memory.read_write_other m v (by omega)

/-- A run of bytes written reads back. -/
theorem Memory.read_writeBytes_same {m : Memory} (h : m.wf) (x i : Nat) (l : List Byte) (hi : i < l.length) :
    (m.writeBytes x l).read (x + i) = l[i] := by
  induction l generalizing m x i with
  | nil => simp at hi
  | cons v vs ih =>
    simp only [Memory.writeBytes]
    cases i with
    | zero =>
      rw [Memory.read_writeBytes_other _ _ _ _ (by omega)]
      simpa using Memory.read_write_same h x v
    | succ j =>
      have := ih (Memory.write_wf h x v) (x + 1) j (by simpa using hi)
      simpa [Nat.add_assoc, Nat.add_comm 1 j] using this

@[simp] theorem Memory.length_readBytes (m : Memory) (x n : Nat) : (m.readBytes x n).length = n := by
  induction n generalizing x with
  | zero => rfl
  | succ n ih => simp [Memory.readBytes, ih]

theorem Memory.getElem_readBytes (m : Memory) (x n i : Nat) (h : i < (m.readBytes x n).length) :
    (m.readBytes x n)[i] = m.read (x + i) := by
  induction n generalizing x i with
  | zero => simp at h
  | succ n ih =>
    cases i with
    | zero => rfl
    | succ j =>
      simp only [Memory.readBytes, List.getElem_cons_succ]
      rw [ih]
      congr 1
      omega

end Sys2Proof.Machine
end

