-- ==== Sys2Proof/Laws/State.lean ====
section
/-! SUPPORT. The named updates of State, one lemma per field per update, and the laws of the keyed parts. -/

namespace Sys2Proof.Machine

variable (s : State)

@[simp] theorem State.setNow_now (x : Nat) : (s.setNow x).now = x := rfl
@[simp] theorem State.setNow_pending (x : Nat) : (s.setNow x).pending = s.pending := rfl
@[simp] theorem State.setNow_draws (x : Nat) : (s.setNow x).draws = s.draws := rfl
@[simp] theorem State.setNow_memory (x : Nat) : (s.setNow x).memory = s.memory := rfl
@[simp] theorem State.setNow_loader (x : Nat) : (s.setNow x).loader = s.loader := rfl
@[simp] theorem State.setNow_link (x : Nat) : (s.setNow x).link = s.link := rfl
@[simp] theorem State.setNow_topics (x : Nat) : (s.setNow x).topics = s.topics := rfl
@[simp] theorem State.setNow_selector (x : Nat) : (s.setNow x).selector = s.selector := rfl
@[simp] theorem State.setNow_estimator (x : Nat) : (s.setNow x).estimator = s.estimator := rfl
@[simp] theorem State.setNow_grip (x : Nat) : (s.setNow x).grip = s.grip := rfl
@[simp] theorem State.setNow_drive (x : Nat) : (s.setNow x).drive = s.drive := rfl
@[simp] theorem State.setNow_brake (x : Nat) : (s.setNow x).brake = s.brake := rfl
@[simp] theorem State.setNow_publisher (x : Nat) : (s.setNow x).publisher = s.publisher := rfl
@[simp] theorem State.setNow_generator (x : Nat) : (s.setNow x).generator = s.generator := rfl
@[simp] theorem State.setNow_monitor (x : Nat) : (s.setNow x).monitor = s.monitor := rfl
@[simp] theorem State.setNow_responder (x : Nat) : (s.setNow x).responder = s.responder := rfl

@[simp] theorem State.setDraws_now (x : Nat) : (s.setDraws x).now = s.now := rfl
@[simp] theorem State.setDraws_pending (x : Nat) : (s.setDraws x).pending = s.pending := rfl
@[simp] theorem State.setDraws_draws (x : Nat) : (s.setDraws x).draws = x := rfl
@[simp] theorem State.setDraws_memory (x : Nat) : (s.setDraws x).memory = s.memory := rfl
@[simp] theorem State.setDraws_loader (x : Nat) : (s.setDraws x).loader = s.loader := rfl
@[simp] theorem State.setDraws_link (x : Nat) : (s.setDraws x).link = s.link := rfl
@[simp] theorem State.setDraws_topics (x : Nat) : (s.setDraws x).topics = s.topics := rfl
@[simp] theorem State.setDraws_selector (x : Nat) : (s.setDraws x).selector = s.selector := rfl
@[simp] theorem State.setDraws_estimator (x : Nat) : (s.setDraws x).estimator = s.estimator := rfl
@[simp] theorem State.setDraws_grip (x : Nat) : (s.setDraws x).grip = s.grip := rfl
@[simp] theorem State.setDraws_drive (x : Nat) : (s.setDraws x).drive = s.drive := rfl
@[simp] theorem State.setDraws_brake (x : Nat) : (s.setDraws x).brake = s.brake := rfl
@[simp] theorem State.setDraws_publisher (x : Nat) : (s.setDraws x).publisher = s.publisher := rfl
@[simp] theorem State.setDraws_generator (x : Nat) : (s.setDraws x).generator = s.generator := rfl
@[simp] theorem State.setDraws_monitor (x : Nat) : (s.setDraws x).monitor = s.monitor := rfl
@[simp] theorem State.setDraws_responder (x : Nat) : (s.setDraws x).responder = s.responder := rfl

@[simp] theorem State.setMemory_now (x : Memory) : (s.setMemory x).now = s.now := rfl
@[simp] theorem State.setMemory_pending (x : Memory) : (s.setMemory x).pending = s.pending := rfl
@[simp] theorem State.setMemory_draws (x : Memory) : (s.setMemory x).draws = s.draws := rfl
@[simp] theorem State.setMemory_memory (x : Memory) : (s.setMemory x).memory = x := rfl
@[simp] theorem State.setMemory_loader (x : Memory) : (s.setMemory x).loader = s.loader := rfl
@[simp] theorem State.setMemory_link (x : Memory) : (s.setMemory x).link = s.link := rfl
@[simp] theorem State.setMemory_topics (x : Memory) : (s.setMemory x).topics = s.topics := rfl
@[simp] theorem State.setMemory_selector (x : Memory) : (s.setMemory x).selector = s.selector := rfl
@[simp] theorem State.setMemory_estimator (x : Memory) : (s.setMemory x).estimator = s.estimator := rfl
@[simp] theorem State.setMemory_grip (x : Memory) : (s.setMemory x).grip = s.grip := rfl
@[simp] theorem State.setMemory_drive (x : Memory) : (s.setMemory x).drive = s.drive := rfl
@[simp] theorem State.setMemory_brake (x : Memory) : (s.setMemory x).brake = s.brake := rfl
@[simp] theorem State.setMemory_publisher (x : Memory) : (s.setMemory x).publisher = s.publisher := rfl
@[simp] theorem State.setMemory_generator (x : Memory) : (s.setMemory x).generator = s.generator := rfl
@[simp] theorem State.setMemory_monitor (x : Memory) : (s.setMemory x).monitor = s.monitor := rfl
@[simp] theorem State.setMemory_responder (x : Memory) : (s.setMemory x).responder = s.responder := rfl

@[simp] theorem State.setLoader_now (x : Loader) : (s.setLoader x).now = s.now := rfl
@[simp] theorem State.setLoader_pending (x : Loader) : (s.setLoader x).pending = s.pending := rfl
@[simp] theorem State.setLoader_draws (x : Loader) : (s.setLoader x).draws = s.draws := rfl
@[simp] theorem State.setLoader_memory (x : Loader) : (s.setLoader x).memory = s.memory := rfl
@[simp] theorem State.setLoader_loader (x : Loader) : (s.setLoader x).loader = x := rfl
@[simp] theorem State.setLoader_link (x : Loader) : (s.setLoader x).link = s.link := rfl
@[simp] theorem State.setLoader_topics (x : Loader) : (s.setLoader x).topics = s.topics := rfl
@[simp] theorem State.setLoader_selector (x : Loader) : (s.setLoader x).selector = s.selector := rfl
@[simp] theorem State.setLoader_estimator (x : Loader) : (s.setLoader x).estimator = s.estimator := rfl
@[simp] theorem State.setLoader_grip (x : Loader) : (s.setLoader x).grip = s.grip := rfl
@[simp] theorem State.setLoader_drive (x : Loader) : (s.setLoader x).drive = s.drive := rfl
@[simp] theorem State.setLoader_brake (x : Loader) : (s.setLoader x).brake = s.brake := rfl
@[simp] theorem State.setLoader_publisher (x : Loader) : (s.setLoader x).publisher = s.publisher := rfl
@[simp] theorem State.setLoader_generator (x : Loader) : (s.setLoader x).generator = s.generator := rfl
@[simp] theorem State.setLoader_monitor (x : Loader) : (s.setLoader x).monitor = s.monitor := rfl
@[simp] theorem State.setLoader_responder (x : Loader) : (s.setLoader x).responder = s.responder := rfl

@[simp] theorem State.setLink_now (x : Link) : (s.setLink x).now = s.now := rfl
@[simp] theorem State.setLink_pending (x : Link) : (s.setLink x).pending = s.pending := rfl
@[simp] theorem State.setLink_draws (x : Link) : (s.setLink x).draws = s.draws := rfl
@[simp] theorem State.setLink_memory (x : Link) : (s.setLink x).memory = s.memory := rfl
@[simp] theorem State.setLink_loader (x : Link) : (s.setLink x).loader = s.loader := rfl
@[simp] theorem State.setLink_link (x : Link) : (s.setLink x).link = x := rfl
@[simp] theorem State.setLink_topics (x : Link) : (s.setLink x).topics = s.topics := rfl
@[simp] theorem State.setLink_selector (x : Link) : (s.setLink x).selector = s.selector := rfl
@[simp] theorem State.setLink_estimator (x : Link) : (s.setLink x).estimator = s.estimator := rfl
@[simp] theorem State.setLink_grip (x : Link) : (s.setLink x).grip = s.grip := rfl
@[simp] theorem State.setLink_drive (x : Link) : (s.setLink x).drive = s.drive := rfl
@[simp] theorem State.setLink_brake (x : Link) : (s.setLink x).brake = s.brake := rfl
@[simp] theorem State.setLink_publisher (x : Link) : (s.setLink x).publisher = s.publisher := rfl
@[simp] theorem State.setLink_generator (x : Link) : (s.setLink x).generator = s.generator := rfl
@[simp] theorem State.setLink_monitor (x : Link) : (s.setLink x).monitor = s.monitor := rfl
@[simp] theorem State.setLink_responder (x : Link) : (s.setLink x).responder = s.responder := rfl

@[simp] theorem State.setTopics_now (x : Topics) : (s.setTopics x).now = s.now := rfl
@[simp] theorem State.setTopics_pending (x : Topics) : (s.setTopics x).pending = s.pending := rfl
@[simp] theorem State.setTopics_draws (x : Topics) : (s.setTopics x).draws = s.draws := rfl
@[simp] theorem State.setTopics_memory (x : Topics) : (s.setTopics x).memory = s.memory := rfl
@[simp] theorem State.setTopics_loader (x : Topics) : (s.setTopics x).loader = s.loader := rfl
@[simp] theorem State.setTopics_link (x : Topics) : (s.setTopics x).link = s.link := rfl
@[simp] theorem State.setTopics_topics (x : Topics) : (s.setTopics x).topics = x := rfl
@[simp] theorem State.setTopics_selector (x : Topics) : (s.setTopics x).selector = s.selector := rfl
@[simp] theorem State.setTopics_estimator (x : Topics) : (s.setTopics x).estimator = s.estimator := rfl
@[simp] theorem State.setTopics_grip (x : Topics) : (s.setTopics x).grip = s.grip := rfl
@[simp] theorem State.setTopics_drive (x : Topics) : (s.setTopics x).drive = s.drive := rfl
@[simp] theorem State.setTopics_brake (x : Topics) : (s.setTopics x).brake = s.brake := rfl
@[simp] theorem State.setTopics_publisher (x : Topics) : (s.setTopics x).publisher = s.publisher := rfl
@[simp] theorem State.setTopics_generator (x : Topics) : (s.setTopics x).generator = s.generator := rfl
@[simp] theorem State.setTopics_monitor (x : Topics) : (s.setTopics x).monitor = s.monitor := rfl
@[simp] theorem State.setTopics_responder (x : Topics) : (s.setTopics x).responder = s.responder := rfl

@[simp] theorem State.setSelector_now (x : Selector) : (s.setSelector x).now = s.now := rfl
@[simp] theorem State.setSelector_pending (x : Selector) : (s.setSelector x).pending = s.pending := rfl
@[simp] theorem State.setSelector_draws (x : Selector) : (s.setSelector x).draws = s.draws := rfl
@[simp] theorem State.setSelector_memory (x : Selector) : (s.setSelector x).memory = s.memory := rfl
@[simp] theorem State.setSelector_loader (x : Selector) : (s.setSelector x).loader = s.loader := rfl
@[simp] theorem State.setSelector_link (x : Selector) : (s.setSelector x).link = s.link := rfl
@[simp] theorem State.setSelector_topics (x : Selector) : (s.setSelector x).topics = s.topics := rfl
@[simp] theorem State.setSelector_selector (x : Selector) : (s.setSelector x).selector = x := rfl
@[simp] theorem State.setSelector_estimator (x : Selector) : (s.setSelector x).estimator = s.estimator := rfl
@[simp] theorem State.setSelector_grip (x : Selector) : (s.setSelector x).grip = s.grip := rfl
@[simp] theorem State.setSelector_drive (x : Selector) : (s.setSelector x).drive = s.drive := rfl
@[simp] theorem State.setSelector_brake (x : Selector) : (s.setSelector x).brake = s.brake := rfl
@[simp] theorem State.setSelector_publisher (x : Selector) : (s.setSelector x).publisher = s.publisher := rfl
@[simp] theorem State.setSelector_generator (x : Selector) : (s.setSelector x).generator = s.generator := rfl
@[simp] theorem State.setSelector_monitor (x : Selector) : (s.setSelector x).monitor = s.monitor := rfl
@[simp] theorem State.setSelector_responder (x : Selector) : (s.setSelector x).responder = s.responder := rfl

@[simp] theorem State.setEstimator_now (x : Estimator) : (s.setEstimator x).now = s.now := rfl
@[simp] theorem State.setEstimator_pending (x : Estimator) : (s.setEstimator x).pending = s.pending := rfl
@[simp] theorem State.setEstimator_draws (x : Estimator) : (s.setEstimator x).draws = s.draws := rfl
@[simp] theorem State.setEstimator_memory (x : Estimator) : (s.setEstimator x).memory = s.memory := rfl
@[simp] theorem State.setEstimator_loader (x : Estimator) : (s.setEstimator x).loader = s.loader := rfl
@[simp] theorem State.setEstimator_link (x : Estimator) : (s.setEstimator x).link = s.link := rfl
@[simp] theorem State.setEstimator_topics (x : Estimator) : (s.setEstimator x).topics = s.topics := rfl
@[simp] theorem State.setEstimator_selector (x : Estimator) : (s.setEstimator x).selector = s.selector := rfl
@[simp] theorem State.setEstimator_estimator (x : Estimator) : (s.setEstimator x).estimator = x := rfl
@[simp] theorem State.setEstimator_grip (x : Estimator) : (s.setEstimator x).grip = s.grip := rfl
@[simp] theorem State.setEstimator_drive (x : Estimator) : (s.setEstimator x).drive = s.drive := rfl
@[simp] theorem State.setEstimator_brake (x : Estimator) : (s.setEstimator x).brake = s.brake := rfl
@[simp] theorem State.setEstimator_publisher (x : Estimator) : (s.setEstimator x).publisher = s.publisher := rfl
@[simp] theorem State.setEstimator_generator (x : Estimator) : (s.setEstimator x).generator = s.generator := rfl
@[simp] theorem State.setEstimator_monitor (x : Estimator) : (s.setEstimator x).monitor = s.monitor := rfl
@[simp] theorem State.setEstimator_responder (x : Estimator) : (s.setEstimator x).responder = s.responder := rfl

@[simp] theorem State.setGrip_now (x : GripUnit) : (s.setGrip x).now = s.now := rfl
@[simp] theorem State.setGrip_pending (x : GripUnit) : (s.setGrip x).pending = s.pending := rfl
@[simp] theorem State.setGrip_draws (x : GripUnit) : (s.setGrip x).draws = s.draws := rfl
@[simp] theorem State.setGrip_memory (x : GripUnit) : (s.setGrip x).memory = s.memory := rfl
@[simp] theorem State.setGrip_loader (x : GripUnit) : (s.setGrip x).loader = s.loader := rfl
@[simp] theorem State.setGrip_link (x : GripUnit) : (s.setGrip x).link = s.link := rfl
@[simp] theorem State.setGrip_topics (x : GripUnit) : (s.setGrip x).topics = s.topics := rfl
@[simp] theorem State.setGrip_selector (x : GripUnit) : (s.setGrip x).selector = s.selector := rfl
@[simp] theorem State.setGrip_estimator (x : GripUnit) : (s.setGrip x).estimator = s.estimator := rfl
@[simp] theorem State.setGrip_grip (x : GripUnit) : (s.setGrip x).grip = x := rfl
@[simp] theorem State.setGrip_drive (x : GripUnit) : (s.setGrip x).drive = s.drive := rfl
@[simp] theorem State.setGrip_brake (x : GripUnit) : (s.setGrip x).brake = s.brake := rfl
@[simp] theorem State.setGrip_publisher (x : GripUnit) : (s.setGrip x).publisher = s.publisher := rfl
@[simp] theorem State.setGrip_generator (x : GripUnit) : (s.setGrip x).generator = s.generator := rfl
@[simp] theorem State.setGrip_monitor (x : GripUnit) : (s.setGrip x).monitor = s.monitor := rfl
@[simp] theorem State.setGrip_responder (x : GripUnit) : (s.setGrip x).responder = s.responder := rfl

@[simp] theorem State.setDrive_now (x : Drive) : (s.setDrive x).now = s.now := rfl
@[simp] theorem State.setDrive_pending (x : Drive) : (s.setDrive x).pending = s.pending := rfl
@[simp] theorem State.setDrive_draws (x : Drive) : (s.setDrive x).draws = s.draws := rfl
@[simp] theorem State.setDrive_memory (x : Drive) : (s.setDrive x).memory = s.memory := rfl
@[simp] theorem State.setDrive_loader (x : Drive) : (s.setDrive x).loader = s.loader := rfl
@[simp] theorem State.setDrive_link (x : Drive) : (s.setDrive x).link = s.link := rfl
@[simp] theorem State.setDrive_topics (x : Drive) : (s.setDrive x).topics = s.topics := rfl
@[simp] theorem State.setDrive_selector (x : Drive) : (s.setDrive x).selector = s.selector := rfl
@[simp] theorem State.setDrive_estimator (x : Drive) : (s.setDrive x).estimator = s.estimator := rfl
@[simp] theorem State.setDrive_grip (x : Drive) : (s.setDrive x).grip = s.grip := rfl
@[simp] theorem State.setDrive_drive (x : Drive) : (s.setDrive x).drive = x := rfl
@[simp] theorem State.setDrive_brake (x : Drive) : (s.setDrive x).brake = s.brake := rfl
@[simp] theorem State.setDrive_publisher (x : Drive) : (s.setDrive x).publisher = s.publisher := rfl
@[simp] theorem State.setDrive_generator (x : Drive) : (s.setDrive x).generator = s.generator := rfl
@[simp] theorem State.setDrive_monitor (x : Drive) : (s.setDrive x).monitor = s.monitor := rfl
@[simp] theorem State.setDrive_responder (x : Drive) : (s.setDrive x).responder = s.responder := rfl

@[simp] theorem State.setBrake_now (x : Brake) : (s.setBrake x).now = s.now := rfl
@[simp] theorem State.setBrake_pending (x : Brake) : (s.setBrake x).pending = s.pending := rfl
@[simp] theorem State.setBrake_draws (x : Brake) : (s.setBrake x).draws = s.draws := rfl
@[simp] theorem State.setBrake_memory (x : Brake) : (s.setBrake x).memory = s.memory := rfl
@[simp] theorem State.setBrake_loader (x : Brake) : (s.setBrake x).loader = s.loader := rfl
@[simp] theorem State.setBrake_link (x : Brake) : (s.setBrake x).link = s.link := rfl
@[simp] theorem State.setBrake_topics (x : Brake) : (s.setBrake x).topics = s.topics := rfl
@[simp] theorem State.setBrake_selector (x : Brake) : (s.setBrake x).selector = s.selector := rfl
@[simp] theorem State.setBrake_estimator (x : Brake) : (s.setBrake x).estimator = s.estimator := rfl
@[simp] theorem State.setBrake_grip (x : Brake) : (s.setBrake x).grip = s.grip := rfl
@[simp] theorem State.setBrake_drive (x : Brake) : (s.setBrake x).drive = s.drive := rfl
@[simp] theorem State.setBrake_brake (x : Brake) : (s.setBrake x).brake = x := rfl
@[simp] theorem State.setBrake_publisher (x : Brake) : (s.setBrake x).publisher = s.publisher := rfl
@[simp] theorem State.setBrake_generator (x : Brake) : (s.setBrake x).generator = s.generator := rfl
@[simp] theorem State.setBrake_monitor (x : Brake) : (s.setBrake x).monitor = s.monitor := rfl
@[simp] theorem State.setBrake_responder (x : Brake) : (s.setBrake x).responder = s.responder := rfl

@[simp] theorem State.setPublisher_now (x : Publisher) : (s.setPublisher x).now = s.now := rfl
@[simp] theorem State.setPublisher_pending (x : Publisher) : (s.setPublisher x).pending = s.pending := rfl
@[simp] theorem State.setPublisher_draws (x : Publisher) : (s.setPublisher x).draws = s.draws := rfl
@[simp] theorem State.setPublisher_memory (x : Publisher) : (s.setPublisher x).memory = s.memory := rfl
@[simp] theorem State.setPublisher_loader (x : Publisher) : (s.setPublisher x).loader = s.loader := rfl
@[simp] theorem State.setPublisher_link (x : Publisher) : (s.setPublisher x).link = s.link := rfl
@[simp] theorem State.setPublisher_topics (x : Publisher) : (s.setPublisher x).topics = s.topics := rfl
@[simp] theorem State.setPublisher_selector (x : Publisher) : (s.setPublisher x).selector = s.selector := rfl
@[simp] theorem State.setPublisher_estimator (x : Publisher) : (s.setPublisher x).estimator = s.estimator := rfl
@[simp] theorem State.setPublisher_grip (x : Publisher) : (s.setPublisher x).grip = s.grip := rfl
@[simp] theorem State.setPublisher_drive (x : Publisher) : (s.setPublisher x).drive = s.drive := rfl
@[simp] theorem State.setPublisher_brake (x : Publisher) : (s.setPublisher x).brake = s.brake := rfl
@[simp] theorem State.setPublisher_publisher (x : Publisher) : (s.setPublisher x).publisher = x := rfl
@[simp] theorem State.setPublisher_generator (x : Publisher) : (s.setPublisher x).generator = s.generator := rfl
@[simp] theorem State.setPublisher_monitor (x : Publisher) : (s.setPublisher x).monitor = s.monitor := rfl
@[simp] theorem State.setPublisher_responder (x : Publisher) : (s.setPublisher x).responder = s.responder := rfl

@[simp] theorem State.setGenerator_now (x : Generator) : (s.setGenerator x).now = s.now := rfl
@[simp] theorem State.setGenerator_pending (x : Generator) : (s.setGenerator x).pending = s.pending := rfl
@[simp] theorem State.setGenerator_draws (x : Generator) : (s.setGenerator x).draws = s.draws := rfl
@[simp] theorem State.setGenerator_memory (x : Generator) : (s.setGenerator x).memory = s.memory := rfl
@[simp] theorem State.setGenerator_loader (x : Generator) : (s.setGenerator x).loader = s.loader := rfl
@[simp] theorem State.setGenerator_link (x : Generator) : (s.setGenerator x).link = s.link := rfl
@[simp] theorem State.setGenerator_topics (x : Generator) : (s.setGenerator x).topics = s.topics := rfl
@[simp] theorem State.setGenerator_selector (x : Generator) : (s.setGenerator x).selector = s.selector := rfl
@[simp] theorem State.setGenerator_estimator (x : Generator) : (s.setGenerator x).estimator = s.estimator := rfl
@[simp] theorem State.setGenerator_grip (x : Generator) : (s.setGenerator x).grip = s.grip := rfl
@[simp] theorem State.setGenerator_drive (x : Generator) : (s.setGenerator x).drive = s.drive := rfl
@[simp] theorem State.setGenerator_brake (x : Generator) : (s.setGenerator x).brake = s.brake := rfl
@[simp] theorem State.setGenerator_publisher (x : Generator) : (s.setGenerator x).publisher = s.publisher := rfl
@[simp] theorem State.setGenerator_generator (x : Generator) : (s.setGenerator x).generator = x := rfl
@[simp] theorem State.setGenerator_monitor (x : Generator) : (s.setGenerator x).monitor = s.monitor := rfl
@[simp] theorem State.setGenerator_responder (x : Generator) : (s.setGenerator x).responder = s.responder := rfl

@[simp] theorem State.setMonitor_now (x : Monitor) : (s.setMonitor x).now = s.now := rfl
@[simp] theorem State.setMonitor_pending (x : Monitor) : (s.setMonitor x).pending = s.pending := rfl
@[simp] theorem State.setMonitor_draws (x : Monitor) : (s.setMonitor x).draws = s.draws := rfl
@[simp] theorem State.setMonitor_memory (x : Monitor) : (s.setMonitor x).memory = s.memory := rfl
@[simp] theorem State.setMonitor_loader (x : Monitor) : (s.setMonitor x).loader = s.loader := rfl
@[simp] theorem State.setMonitor_link (x : Monitor) : (s.setMonitor x).link = s.link := rfl
@[simp] theorem State.setMonitor_topics (x : Monitor) : (s.setMonitor x).topics = s.topics := rfl
@[simp] theorem State.setMonitor_selector (x : Monitor) : (s.setMonitor x).selector = s.selector := rfl
@[simp] theorem State.setMonitor_estimator (x : Monitor) : (s.setMonitor x).estimator = s.estimator := rfl
@[simp] theorem State.setMonitor_grip (x : Monitor) : (s.setMonitor x).grip = s.grip := rfl
@[simp] theorem State.setMonitor_drive (x : Monitor) : (s.setMonitor x).drive = s.drive := rfl
@[simp] theorem State.setMonitor_brake (x : Monitor) : (s.setMonitor x).brake = s.brake := rfl
@[simp] theorem State.setMonitor_publisher (x : Monitor) : (s.setMonitor x).publisher = s.publisher := rfl
@[simp] theorem State.setMonitor_generator (x : Monitor) : (s.setMonitor x).generator = s.generator := rfl
@[simp] theorem State.setMonitor_monitor (x : Monitor) : (s.setMonitor x).monitor = x := rfl
@[simp] theorem State.setMonitor_responder (x : Monitor) : (s.setMonitor x).responder = s.responder := rfl

@[simp] theorem State.setResponder_now (x : Responder) : (s.setResponder x).now = s.now := rfl
@[simp] theorem State.setResponder_pending (x : Responder) : (s.setResponder x).pending = s.pending := rfl
@[simp] theorem State.setResponder_draws (x : Responder) : (s.setResponder x).draws = s.draws := rfl
@[simp] theorem State.setResponder_memory (x : Responder) : (s.setResponder x).memory = s.memory := rfl
@[simp] theorem State.setResponder_loader (x : Responder) : (s.setResponder x).loader = s.loader := rfl
@[simp] theorem State.setResponder_link (x : Responder) : (s.setResponder x).link = s.link := rfl
@[simp] theorem State.setResponder_topics (x : Responder) : (s.setResponder x).topics = s.topics := rfl
@[simp] theorem State.setResponder_selector (x : Responder) : (s.setResponder x).selector = s.selector := rfl
@[simp] theorem State.setResponder_estimator (x : Responder) : (s.setResponder x).estimator = s.estimator := rfl
@[simp] theorem State.setResponder_grip (x : Responder) : (s.setResponder x).grip = s.grip := rfl
@[simp] theorem State.setResponder_drive (x : Responder) : (s.setResponder x).drive = s.drive := rfl
@[simp] theorem State.setResponder_brake (x : Responder) : (s.setResponder x).brake = s.brake := rfl
@[simp] theorem State.setResponder_publisher (x : Responder) : (s.setResponder x).publisher = s.publisher := rfl
@[simp] theorem State.setResponder_generator (x : Responder) : (s.setResponder x).generator = s.generator := rfl
@[simp] theorem State.setResponder_monitor (x : Responder) : (s.setResponder x).monitor = s.monitor := rfl
@[simp] theorem State.setResponder_responder (x : Responder) : (s.setResponder x).responder = x := rfl

@[simp] theorem State.setPending_now (x : List Instr) : (s.setPending x).now = s.now := rfl
@[simp] theorem State.setPending_pending (x : List Instr) : (s.setPending x).pending = x := rfl
@[simp] theorem State.setPending_draws (x : List Instr) : (s.setPending x).draws = s.draws := rfl
@[simp] theorem State.setPending_memory (x : List Instr) : (s.setPending x).memory = s.memory := rfl
@[simp] theorem State.setPending_loader (x : List Instr) : (s.setPending x).loader = s.loader := rfl
@[simp] theorem State.setPending_link (x : List Instr) : (s.setPending x).link = s.link := rfl
@[simp] theorem State.setPending_topics (x : List Instr) : (s.setPending x).topics = s.topics := rfl
@[simp] theorem State.setPending_selector (x : List Instr) : (s.setPending x).selector = s.selector := rfl
@[simp] theorem State.setPending_estimator (x : List Instr) : (s.setPending x).estimator = s.estimator := rfl
@[simp] theorem State.setPending_grip (x : List Instr) : (s.setPending x).grip = s.grip := rfl
@[simp] theorem State.setPending_drive (x : List Instr) : (s.setPending x).drive = s.drive := rfl
@[simp] theorem State.setPending_brake (x : List Instr) : (s.setPending x).brake = s.brake := rfl
@[simp] theorem State.setPending_publisher (x : List Instr) : (s.setPending x).publisher = s.publisher := rfl
@[simp] theorem State.setPending_generator (x : List Instr) : (s.setPending x).generator = s.generator := rfl
@[simp] theorem State.setPending_monitor (x : List Instr) : (s.setPending x).monitor = s.monitor := rfl
@[simp] theorem State.setPending_responder (x : List Instr) : (s.setPending x).responder = s.responder := rfl

theorem Topics.get_set_self (t : Topics) (e : EntryName) (x : Entry) : (t.set e x).get e = x := by
  cases e <;> rfl

theorem Topics.get_set_other (t : Topics) {e d : EntryName} (x : Entry) (h : d ≠ e) :
    (t.set e x).get d = t.get d := by
  cases e <;> cases d <;> first | rfl | exact absurd rfl h

@[simp] theorem Topics.get_set (t : Topics) (e d : EntryName) (x : Entry) :
    (t.set e x).get d = if d = e then x else t.get d := by
  split
  · next h => subst h; exact t.get_set_self d x
  · next h => exact t.get_set_other x h

theorem FaultSet.get_set_self (t : FaultSet) (f : Fault12) (m : FaultMark) : (t.set f m).get f = m := by
  cases f <;> rfl

theorem FaultSet.get_set_other (t : FaultSet) {f g : Fault12} (m : FaultMark) (h : g ≠ f) :
    (t.set f m).get g = t.get g := by
  cases f <;> cases g <;> first | rfl | exact absurd rfl h

@[simp] theorem FaultSet.get_set (t : FaultSet) (f g : Fault12) (m : FaultMark) :
    (t.set f m).get g = if g = f then m else t.get g := by
  split
  · next h => subst h; exact t.get_set_self g m
  · next h => exact t.get_set_other m h

theorem SeqCounters.get_set_self (c : SeqCounters) (t : TxTopic) (n : Seq) : (c.set t n).get t = n := by
  cases t <;> rfl

theorem SeqCounters.get_set_other (c : SeqCounters) {t u : TxTopic} (n : Seq) (h : u ≠ t) :
    (c.set t n).get u = c.get u := by
  cases t <;> cases u <;> first | rfl | exact absurd rfl h

@[simp] theorem SeqCounters.get_set (c : SeqCounters) (t u : TxTopic) (n : Seq) :
    (c.set t n).get u = if u = t then n else c.get u := by
  split
  · next h => subst h; exact c.get_set_self u n
  · next h => exact c.get_set_other n h

@[simp] theorem Publisher.track_setTrack (p : Publisher) (c d : Consumer) (t : Track) :
    (p.setTrack c t).track d = if d = c then t else p.track d := by
  cases c <;> cases d <;> rfl

end Sys2Proof.Machine
end

