-- ==== Sys2Proof/Laws/Ops.lean ====
section
/-! SUPPORT. What the shared operations leave alone, block by block: one lemma per operation and field. -/

namespace Sys2Proof.Machine

variable (s : State)

/-! ### Time -/

@[simp] theorem State.elapse_pending (dt : Nat) :
    (s.elapse dt).pending = s.pending := by
  rfl

@[simp] theorem State.elapse_draws (dt : Nat) :
    (s.elapse dt).draws = s.draws := by
  rfl

@[simp] theorem State.elapse_memory (dt : Nat) :
    (s.elapse dt).memory = s.memory := by
  rfl

@[simp] theorem State.elapse_loader (dt : Nat) :
    (s.elapse dt).loader = s.loader := by
  rfl

@[simp] theorem State.elapse_link (dt : Nat) :
    (s.elapse dt).link = s.link := by
  rfl

@[simp] theorem State.elapse_topics (dt : Nat) :
    (s.elapse dt).topics = s.topics := by
  rfl

@[simp] theorem State.elapse_selector (dt : Nat) :
    (s.elapse dt).selector = s.selector := by
  rfl

@[simp] theorem State.elapse_estimator (dt : Nat) :
    (s.elapse dt).estimator = s.estimator := by
  rfl

@[simp] theorem State.elapse_grip (dt : Nat) :
    (s.elapse dt).grip = s.grip := by
  rfl

@[simp] theorem State.elapse_drive (dt : Nat) :
    (s.elapse dt).drive = s.drive := by
  rfl

@[simp] theorem State.elapse_brake (dt : Nat) :
    (s.elapse dt).brake = s.brake := by
  rfl

@[simp] theorem State.elapse_publisher (dt : Nat) :
    (s.elapse dt).publisher = s.publisher := by
  rfl

@[simp] theorem State.elapse_generator (dt : Nat) :
    (s.elapse dt).generator = s.generator := by
  rfl

@[simp] theorem State.elapse_monitor (dt : Nat) :
    (s.elapse dt).monitor = s.monitor := by
  rfl

@[simp] theorem State.elapse_responder (dt : Nat) :
    (s.elapse dt).responder = s.responder := by
  rfl

@[simp] theorem State.until_pending (t : Nat) :
    (s.until t).pending = s.pending := by
  rfl

@[simp] theorem State.until_draws (t : Nat) :
    (s.until t).draws = s.draws := by
  rfl

@[simp] theorem State.until_memory (t : Nat) :
    (s.until t).memory = s.memory := by
  rfl

@[simp] theorem State.until_loader (t : Nat) :
    (s.until t).loader = s.loader := by
  rfl

@[simp] theorem State.until_link (t : Nat) :
    (s.until t).link = s.link := by
  rfl

@[simp] theorem State.until_topics (t : Nat) :
    (s.until t).topics = s.topics := by
  rfl

@[simp] theorem State.until_selector (t : Nat) :
    (s.until t).selector = s.selector := by
  rfl

@[simp] theorem State.until_estimator (t : Nat) :
    (s.until t).estimator = s.estimator := by
  rfl

@[simp] theorem State.until_grip (t : Nat) :
    (s.until t).grip = s.grip := by
  rfl

@[simp] theorem State.until_drive (t : Nat) :
    (s.until t).drive = s.drive := by
  rfl

@[simp] theorem State.until_brake (t : Nat) :
    (s.until t).brake = s.brake := by
  rfl

@[simp] theorem State.until_publisher (t : Nat) :
    (s.until t).publisher = s.publisher := by
  rfl

@[simp] theorem State.until_generator (t : Nat) :
    (s.until t).generator = s.generator := by
  rfl

@[simp] theorem State.until_monitor (t : Nat) :
    (s.until t).monitor = s.monitor := by
  rfl

@[simp] theorem State.until_responder (t : Nat) :
    (s.until t).responder = s.responder := by
  rfl

/-! ### The transmit queue and the Fault Monitor -/

@[simp] theorem State.offer_now (t : TxTopic) (p : List Byte) :
    (s.offer t p).now = s.now := by
  rfl

@[simp] theorem State.offer_pending (t : TxTopic) (p : List Byte) :
    (s.offer t p).pending = s.pending := by
  rfl

@[simp] theorem State.offer_draws (t : TxTopic) (p : List Byte) :
    (s.offer t p).draws = s.draws := by
  rfl

@[simp] theorem State.offer_memory (t : TxTopic) (p : List Byte) :
    (s.offer t p).memory = s.memory := by
  rfl

@[simp] theorem State.offer_loader (t : TxTopic) (p : List Byte) :
    (s.offer t p).loader = s.loader := by
  rfl

@[simp] theorem State.offer_topics (t : TxTopic) (p : List Byte) :
    (s.offer t p).topics = s.topics := by
  rfl

@[simp] theorem State.offer_selector (t : TxTopic) (p : List Byte) :
    (s.offer t p).selector = s.selector := by
  rfl

@[simp] theorem State.offer_estimator (t : TxTopic) (p : List Byte) :
    (s.offer t p).estimator = s.estimator := by
  rfl

@[simp] theorem State.offer_grip (t : TxTopic) (p : List Byte) :
    (s.offer t p).grip = s.grip := by
  rfl

@[simp] theorem State.offer_drive (t : TxTopic) (p : List Byte) :
    (s.offer t p).drive = s.drive := by
  rfl

@[simp] theorem State.offer_brake (t : TxTopic) (p : List Byte) :
    (s.offer t p).brake = s.brake := by
  rfl

@[simp] theorem State.offer_generator (t : TxTopic) (p : List Byte) :
    (s.offer t p).generator = s.generator := by
  rfl

@[simp] theorem State.offer_monitor (t : TxTopic) (p : List Byte) :
    (s.offer t p).monitor = s.monitor := by
  rfl

@[simp] theorem State.offer_responder (t : TxTopic) (p : List Byte) :
    (s.offer t p).responder = s.responder := by
  rfl

@[simp] theorem State.offerLtStatus_now :
    (s.offerLtStatus).now = s.now := by
  unfold State.offerLtStatus; split <;> simp

@[simp] theorem State.offerLtStatus_pending :
    (s.offerLtStatus).pending = s.pending := by
  unfold State.offerLtStatus; split <;> simp

@[simp] theorem State.offerLtStatus_draws :
    (s.offerLtStatus).draws = s.draws := by
  unfold State.offerLtStatus; split <;> simp

@[simp] theorem State.offerLtStatus_memory :
    (s.offerLtStatus).memory = s.memory := by
  unfold State.offerLtStatus; split <;> simp

@[simp] theorem State.offerLtStatus_loader :
    (s.offerLtStatus).loader = s.loader := by
  unfold State.offerLtStatus; split <;> simp

@[simp] theorem State.offerLtStatus_topics :
    (s.offerLtStatus).topics = s.topics := by
  unfold State.offerLtStatus; split <;> simp

@[simp] theorem State.offerLtStatus_selector :
    (s.offerLtStatus).selector = s.selector := by
  unfold State.offerLtStatus; split <;> simp

@[simp] theorem State.offerLtStatus_estimator :
    (s.offerLtStatus).estimator = s.estimator := by
  unfold State.offerLtStatus; split <;> simp

@[simp] theorem State.offerLtStatus_grip :
    (s.offerLtStatus).grip = s.grip := by
  unfold State.offerLtStatus; split <;> simp

@[simp] theorem State.offerLtStatus_drive :
    (s.offerLtStatus).drive = s.drive := by
  unfold State.offerLtStatus; split <;> simp

@[simp] theorem State.offerLtStatus_brake :
    (s.offerLtStatus).brake = s.brake := by
  unfold State.offerLtStatus; split <;> simp

@[simp] theorem State.offerLtStatus_generator :
    (s.offerLtStatus).generator = s.generator := by
  unfold State.offerLtStatus; split <;> simp

@[simp] theorem State.offerLtStatus_responder :
    (s.offerLtStatus).responder = s.responder := by
  unfold State.offerLtStatus; split <;> simp

@[simp] theorem State.refreshLamp_now :
    (s.refreshLamp).now = s.now := by
  unfold State.refreshLamp; split <;> simp

@[simp] theorem State.refreshLamp_pending :
    (s.refreshLamp).pending = s.pending := by
  unfold State.refreshLamp; split <;> simp

@[simp] theorem State.refreshLamp_draws :
    (s.refreshLamp).draws = s.draws := by
  unfold State.refreshLamp; split <;> simp

@[simp] theorem State.refreshLamp_memory :
    (s.refreshLamp).memory = s.memory := by
  unfold State.refreshLamp; split <;> simp

@[simp] theorem State.refreshLamp_loader :
    (s.refreshLamp).loader = s.loader := by
  unfold State.refreshLamp; split <;> simp

@[simp] theorem State.refreshLamp_topics :
    (s.refreshLamp).topics = s.topics := by
  unfold State.refreshLamp; split <;> simp

@[simp] theorem State.refreshLamp_selector :
    (s.refreshLamp).selector = s.selector := by
  unfold State.refreshLamp; split <;> simp

@[simp] theorem State.refreshLamp_estimator :
    (s.refreshLamp).estimator = s.estimator := by
  unfold State.refreshLamp; split <;> simp

@[simp] theorem State.refreshLamp_grip :
    (s.refreshLamp).grip = s.grip := by
  unfold State.refreshLamp; split <;> simp

@[simp] theorem State.refreshLamp_drive :
    (s.refreshLamp).drive = s.drive := by
  unfold State.refreshLamp; split <;> simp

@[simp] theorem State.refreshLamp_brake :
    (s.refreshLamp).brake = s.brake := by
  unfold State.refreshLamp; split <;> simp

@[simp] theorem State.refreshLamp_generator :
    (s.refreshLamp).generator = s.generator := by
  unfold State.refreshLamp; split <;> simp

@[simp] theorem State.refreshLamp_responder :
    (s.refreshLamp).responder = s.responder := by
  unfold State.refreshLamp; split <;> simp

@[simp] theorem State.report_now (f : Fault12) (b : Bool) :
    (s.report f b).now = s.now := by
  simp [State.report]

@[simp] theorem State.report_pending (f : Fault12) (b : Bool) :
    (s.report f b).pending = s.pending := by
  simp [State.report]

@[simp] theorem State.report_draws (f : Fault12) (b : Bool) :
    (s.report f b).draws = s.draws := by
  simp [State.report]

@[simp] theorem State.report_memory (f : Fault12) (b : Bool) :
    (s.report f b).memory = s.memory := by
  simp [State.report]

@[simp] theorem State.report_loader (f : Fault12) (b : Bool) :
    (s.report f b).loader = s.loader := by
  simp [State.report]

@[simp] theorem State.report_topics (f : Fault12) (b : Bool) :
    (s.report f b).topics = s.topics := by
  simp [State.report]

@[simp] theorem State.report_selector (f : Fault12) (b : Bool) :
    (s.report f b).selector = s.selector := by
  simp [State.report]

@[simp] theorem State.report_estimator (f : Fault12) (b : Bool) :
    (s.report f b).estimator = s.estimator := by
  simp [State.report]

@[simp] theorem State.report_grip (f : Fault12) (b : Bool) :
    (s.report f b).grip = s.grip := by
  simp [State.report]

@[simp] theorem State.report_drive (f : Fault12) (b : Bool) :
    (s.report f b).drive = s.drive := by
  simp [State.report]

@[simp] theorem State.report_brake (f : Fault12) (b : Bool) :
    (s.report f b).brake = s.brake := by
  simp [State.report]

@[simp] theorem State.report_generator (f : Fault12) (b : Bool) :
    (s.report f b).generator = s.generator := by
  simp [State.report]

@[simp] theorem State.report_responder (f : Fault12) (b : Bool) :
    (s.report f b).responder = s.responder := by
  simp [State.report]

@[simp] theorem State.setCondition_now (f : Fault12) (b : Bool) :
    (s.setCondition f b).now = s.now := by
  unfold State.setCondition; split <;> simp

@[simp] theorem State.setCondition_pending (f : Fault12) (b : Bool) :
    (s.setCondition f b).pending = s.pending := by
  unfold State.setCondition; split <;> simp

@[simp] theorem State.setCondition_draws (f : Fault12) (b : Bool) :
    (s.setCondition f b).draws = s.draws := by
  unfold State.setCondition; split <;> simp

@[simp] theorem State.setCondition_memory (f : Fault12) (b : Bool) :
    (s.setCondition f b).memory = s.memory := by
  unfold State.setCondition; split <;> simp

@[simp] theorem State.setCondition_loader (f : Fault12) (b : Bool) :
    (s.setCondition f b).loader = s.loader := by
  unfold State.setCondition; split <;> simp

@[simp] theorem State.setCondition_topics (f : Fault12) (b : Bool) :
    (s.setCondition f b).topics = s.topics := by
  unfold State.setCondition; split <;> simp

@[simp] theorem State.setCondition_selector (f : Fault12) (b : Bool) :
    (s.setCondition f b).selector = s.selector := by
  unfold State.setCondition; split <;> simp

@[simp] theorem State.setCondition_estimator (f : Fault12) (b : Bool) :
    (s.setCondition f b).estimator = s.estimator := by
  unfold State.setCondition; split <;> simp

@[simp] theorem State.setCondition_grip (f : Fault12) (b : Bool) :
    (s.setCondition f b).grip = s.grip := by
  unfold State.setCondition; split <;> simp

@[simp] theorem State.setCondition_drive (f : Fault12) (b : Bool) :
    (s.setCondition f b).drive = s.drive := by
  unfold State.setCondition; split <;> simp

@[simp] theorem State.setCondition_brake (f : Fault12) (b : Bool) :
    (s.setCondition f b).brake = s.brake := by
  unfold State.setCondition; split <;> simp

@[simp] theorem State.setCondition_generator (f : Fault12) (b : Bool) :
    (s.setCondition f b).generator = s.generator := by
  unfold State.setCondition; split <;> simp

@[simp] theorem State.setCondition_responder (f : Fault12) (b : Bool) :
    (s.setCondition f b).responder = s.responder := by
  unfold State.setCondition; split <;> simp

@[simp] theorem State.tellDrive_now :
    (s.tellDrive).now = s.now := by
  simp [State.tellDrive]

@[simp] theorem State.tellDrive_pending :
    (s.tellDrive).pending = s.pending := by
  simp [State.tellDrive]

@[simp] theorem State.tellDrive_draws :
    (s.tellDrive).draws = s.draws := by
  simp [State.tellDrive]

@[simp] theorem State.tellDrive_memory :
    (s.tellDrive).memory = s.memory := by
  simp [State.tellDrive]

@[simp] theorem State.tellDrive_loader :
    (s.tellDrive).loader = s.loader := by
  simp [State.tellDrive]

@[simp] theorem State.tellDrive_topics :
    (s.tellDrive).topics = s.topics := by
  simp [State.tellDrive]

@[simp] theorem State.tellDrive_selector :
    (s.tellDrive).selector = s.selector := by
  simp [State.tellDrive]

@[simp] theorem State.tellDrive_estimator :
    (s.tellDrive).estimator = s.estimator := by
  simp [State.tellDrive]

@[simp] theorem State.tellDrive_grip :
    (s.tellDrive).grip = s.grip := by
  simp [State.tellDrive]

@[simp] theorem State.tellDrive_drive :
    (s.tellDrive).drive = s.drive := by
  simp [State.tellDrive]

@[simp] theorem State.tellDrive_brake :
    (s.tellDrive).brake = s.brake := by
  simp [State.tellDrive]

@[simp] theorem State.tellDrive_generator :
    (s.tellDrive).generator = s.generator := by
  simp [State.tellDrive]

@[simp] theorem State.tellDrive_responder :
    (s.tellDrive).responder = s.responder := by
  simp [State.tellDrive]

@[simp] theorem State.tellDriveIfChanged_now (d : Drive) :
    (s.tellDriveIfChanged d).now = s.now := by
  unfold State.tellDriveIfChanged; split <;> simp

@[simp] theorem State.tellDriveIfChanged_pending (d : Drive) :
    (s.tellDriveIfChanged d).pending = s.pending := by
  unfold State.tellDriveIfChanged; split <;> simp

@[simp] theorem State.tellDriveIfChanged_draws (d : Drive) :
    (s.tellDriveIfChanged d).draws = s.draws := by
  unfold State.tellDriveIfChanged; split <;> simp

@[simp] theorem State.tellDriveIfChanged_memory (d : Drive) :
    (s.tellDriveIfChanged d).memory = s.memory := by
  unfold State.tellDriveIfChanged; split <;> simp

@[simp] theorem State.tellDriveIfChanged_loader (d : Drive) :
    (s.tellDriveIfChanged d).loader = s.loader := by
  unfold State.tellDriveIfChanged; split <;> simp

@[simp] theorem State.tellDriveIfChanged_topics (d : Drive) :
    (s.tellDriveIfChanged d).topics = s.topics := by
  unfold State.tellDriveIfChanged; split <;> simp

@[simp] theorem State.tellDriveIfChanged_selector (d : Drive) :
    (s.tellDriveIfChanged d).selector = s.selector := by
  unfold State.tellDriveIfChanged; split <;> simp

@[simp] theorem State.tellDriveIfChanged_estimator (d : Drive) :
    (s.tellDriveIfChanged d).estimator = s.estimator := by
  unfold State.tellDriveIfChanged; split <;> simp

@[simp] theorem State.tellDriveIfChanged_grip (d : Drive) :
    (s.tellDriveIfChanged d).grip = s.grip := by
  unfold State.tellDriveIfChanged; split <;> simp

@[simp] theorem State.tellDriveIfChanged_drive (d : Drive) :
    (s.tellDriveIfChanged d).drive = s.drive := by
  unfold State.tellDriveIfChanged; split <;> simp

@[simp] theorem State.tellDriveIfChanged_brake (d : Drive) :
    (s.tellDriveIfChanged d).brake = s.brake := by
  unfold State.tellDriveIfChanged; split <;> simp

@[simp] theorem State.tellDriveIfChanged_generator (d : Drive) :
    (s.tellDriveIfChanged d).generator = s.generator := by
  unfold State.tellDriveIfChanged; split <;> simp

@[simp] theorem State.tellDriveIfChanged_responder (d : Drive) :
    (s.tellDriveIfChanged d).responder = s.responder := by
  unfold State.tellDriveIfChanged; split <;> simp

@[simp] theorem State.tellBrakeIfChanged_now (b : Brake) :
    (s.tellBrakeIfChanged b).now = s.now := by
  unfold State.tellBrakeIfChanged; split <;> simp

@[simp] theorem State.tellBrakeIfChanged_pending (b : Brake) :
    (s.tellBrakeIfChanged b).pending = s.pending := by
  unfold State.tellBrakeIfChanged; split <;> simp

@[simp] theorem State.tellBrakeIfChanged_draws (b : Brake) :
    (s.tellBrakeIfChanged b).draws = s.draws := by
  unfold State.tellBrakeIfChanged; split <;> simp

@[simp] theorem State.tellBrakeIfChanged_memory (b : Brake) :
    (s.tellBrakeIfChanged b).memory = s.memory := by
  unfold State.tellBrakeIfChanged; split <;> simp

@[simp] theorem State.tellBrakeIfChanged_loader (b : Brake) :
    (s.tellBrakeIfChanged b).loader = s.loader := by
  unfold State.tellBrakeIfChanged; split <;> simp

@[simp] theorem State.tellBrakeIfChanged_topics (b : Brake) :
    (s.tellBrakeIfChanged b).topics = s.topics := by
  unfold State.tellBrakeIfChanged; split <;> simp

@[simp] theorem State.tellBrakeIfChanged_selector (b : Brake) :
    (s.tellBrakeIfChanged b).selector = s.selector := by
  unfold State.tellBrakeIfChanged; split <;> simp

@[simp] theorem State.tellBrakeIfChanged_estimator (b : Brake) :
    (s.tellBrakeIfChanged b).estimator = s.estimator := by
  unfold State.tellBrakeIfChanged; split <;> simp

@[simp] theorem State.tellBrakeIfChanged_grip (b : Brake) :
    (s.tellBrakeIfChanged b).grip = s.grip := by
  unfold State.tellBrakeIfChanged; split <;> simp

@[simp] theorem State.tellBrakeIfChanged_drive (b : Brake) :
    (s.tellBrakeIfChanged b).drive = s.drive := by
  unfold State.tellBrakeIfChanged; split <;> simp

@[simp] theorem State.tellBrakeIfChanged_brake (b : Brake) :
    (s.tellBrakeIfChanged b).brake = s.brake := by
  unfold State.tellBrakeIfChanged; split <;> simp

@[simp] theorem State.tellBrakeIfChanged_generator (b : Brake) :
    (s.tellBrakeIfChanged b).generator = s.generator := by
  unfold State.tellBrakeIfChanged; split <;> simp

@[simp] theorem State.tellBrakeIfChanged_responder (b : Brake) :
    (s.tellBrakeIfChanged b).responder = s.responder := by
  unfold State.tellBrakeIfChanged; split <;> simp

@[simp] theorem State.tellCut_now (b : Bool) :
    (s.tellCut b).now = s.now := by
  unfold State.tellCut; split <;> simp

@[simp] theorem State.tellCut_pending (b : Bool) :
    (s.tellCut b).pending = s.pending := by
  unfold State.tellCut; split <;> simp

@[simp] theorem State.tellCut_draws (b : Bool) :
    (s.tellCut b).draws = s.draws := by
  unfold State.tellCut; split <;> simp

@[simp] theorem State.tellCut_memory (b : Bool) :
    (s.tellCut b).memory = s.memory := by
  unfold State.tellCut; split <;> simp

@[simp] theorem State.tellCut_loader (b : Bool) :
    (s.tellCut b).loader = s.loader := by
  unfold State.tellCut; split <;> simp

@[simp] theorem State.tellCut_topics (b : Bool) :
    (s.tellCut b).topics = s.topics := by
  unfold State.tellCut; split <;> simp

@[simp] theorem State.tellCut_selector (b : Bool) :
    (s.tellCut b).selector = s.selector := by
  unfold State.tellCut; split <;> simp

@[simp] theorem State.tellCut_estimator (b : Bool) :
    (s.tellCut b).estimator = s.estimator := by
  unfold State.tellCut; split <;> simp

@[simp] theorem State.tellCut_grip (b : Bool) :
    (s.tellCut b).grip = s.grip := by
  unfold State.tellCut; split <;> simp

@[simp] theorem State.tellCut_drive (b : Bool) :
    (s.tellCut b).drive = s.drive := by
  unfold State.tellCut; split <;> simp

@[simp] theorem State.tellCut_brake (b : Bool) :
    (s.tellCut b).brake = s.brake := by
  unfold State.tellCut; split <;> simp

@[simp] theorem State.tellCut_generator (b : Bool) :
    (s.tellCut b).generator = s.generator := by
  unfold State.tellCut; split <;> simp

@[simp] theorem State.tellCut_responder (b : Bool) :
    (s.tellCut b).responder = s.responder := by
  unfold State.tellCut; split <;> simp

/-! ### Budgets and notices -/

@[simp] theorem State.drawBudget_now :
    (s.drawBudget).now = s.now := by
  unfold State.drawBudget; split <;> simp

@[simp] theorem State.drawBudget_pending :
    (s.drawBudget).pending = s.pending := by
  unfold State.drawBudget; split <;> simp

@[simp] theorem State.drawBudget_draws :
    (s.drawBudget).draws = s.draws := by
  unfold State.drawBudget; split <;> simp

@[simp] theorem State.drawBudget_memory :
    (s.drawBudget).memory = s.memory := by
  unfold State.drawBudget; split <;> simp

@[simp] theorem State.drawBudget_loader :
    (s.drawBudget).loader = s.loader := by
  unfold State.drawBudget; split <;> simp

@[simp] theorem State.drawBudget_link :
    (s.drawBudget).link = s.link := by
  unfold State.drawBudget; split <;> simp

@[simp] theorem State.drawBudget_topics :
    (s.drawBudget).topics = s.topics := by
  unfold State.drawBudget; split <;> simp

@[simp] theorem State.drawBudget_selector :
    (s.drawBudget).selector = s.selector := by
  unfold State.drawBudget; split <;> simp

@[simp] theorem State.drawBudget_estimator :
    (s.drawBudget).estimator = s.estimator := by
  unfold State.drawBudget; split <;> simp

@[simp] theorem State.drawBudget_drive :
    (s.drawBudget).drive = s.drive := by
  unfold State.drawBudget; split <;> simp

@[simp] theorem State.drawBudget_brake :
    (s.drawBudget).brake = s.brake := by
  unfold State.drawBudget; split <;> simp

@[simp] theorem State.drawBudget_publisher :
    (s.drawBudget).publisher = s.publisher := by
  unfold State.drawBudget; split <;> simp

@[simp] theorem State.drawBudget_generator :
    (s.drawBudget).generator = s.generator := by
  unfold State.drawBudget; split <;> simp

@[simp] theorem State.drawBudget_monitor :
    (s.drawBudget).monitor = s.monitor := by
  unfold State.drawBudget; split <;> simp

@[simp] theorem State.drawBudget_responder :
    (s.drawBudget).responder = s.responder := by
  unfold State.drawBudget; split <;> simp

@[simp] theorem State.breach_now (band : Nat) (sender : NoticeSender) :
    (s.breach band sender).now = s.now := by
  rfl

@[simp] theorem State.breach_pending (band : Nat) (sender : NoticeSender) :
    (s.breach band sender).pending = s.pending := by
  rfl

@[simp] theorem State.breach_draws (band : Nat) (sender : NoticeSender) :
    (s.breach band sender).draws = s.draws := by
  rfl

@[simp] theorem State.breach_memory (band : Nat) (sender : NoticeSender) :
    (s.breach band sender).memory = s.memory := by
  rfl

@[simp] theorem State.breach_loader (band : Nat) (sender : NoticeSender) :
    (s.breach band sender).loader = s.loader := by
  rfl

@[simp] theorem State.breach_link (band : Nat) (sender : NoticeSender) :
    (s.breach band sender).link = s.link := by
  rfl

@[simp] theorem State.breach_topics (band : Nat) (sender : NoticeSender) :
    (s.breach band sender).topics = s.topics := by
  rfl

@[simp] theorem State.breach_selector (band : Nat) (sender : NoticeSender) :
    (s.breach band sender).selector = s.selector := by
  rfl

@[simp] theorem State.breach_estimator (band : Nat) (sender : NoticeSender) :
    (s.breach band sender).estimator = s.estimator := by
  rfl

@[simp] theorem State.breach_drive (band : Nat) (sender : NoticeSender) :
    (s.breach band sender).drive = s.drive := by
  rfl

@[simp] theorem State.breach_brake (band : Nat) (sender : NoticeSender) :
    (s.breach band sender).brake = s.brake := by
  rfl

@[simp] theorem State.breach_publisher (band : Nat) (sender : NoticeSender) :
    (s.breach band sender).publisher = s.publisher := by
  rfl

@[simp] theorem State.breach_generator (band : Nat) (sender : NoticeSender) :
    (s.breach band sender).generator = s.generator := by
  rfl

@[simp] theorem State.breach_monitor (band : Nat) (sender : NoticeSender) :
    (s.breach band sender).monitor = s.monitor := by
  rfl

@[simp] theorem State.breach_responder (band : Nat) (sender : NoticeSender) :
    (s.breach band sender).responder = s.responder := by
  rfl

@[simp] theorem State.driveNotice_now (r : StepResult) :
    (s.driveNotice r).now = s.now := by
  unfold State.driveNotice; split <;> simp

@[simp] theorem State.driveNotice_pending (r : StepResult) :
    (s.driveNotice r).pending = s.pending := by
  unfold State.driveNotice; split <;> simp

@[simp] theorem State.driveNotice_draws (r : StepResult) :
    (s.driveNotice r).draws = s.draws := by
  unfold State.driveNotice; split <;> simp

@[simp] theorem State.driveNotice_memory (r : StepResult) :
    (s.driveNotice r).memory = s.memory := by
  unfold State.driveNotice; split <;> simp

@[simp] theorem State.driveNotice_loader (r : StepResult) :
    (s.driveNotice r).loader = s.loader := by
  unfold State.driveNotice; split <;> simp

@[simp] theorem State.driveNotice_link (r : StepResult) :
    (s.driveNotice r).link = s.link := by
  unfold State.driveNotice; split <;> simp

@[simp] theorem State.driveNotice_topics (r : StepResult) :
    (s.driveNotice r).topics = s.topics := by
  unfold State.driveNotice; split <;> simp

@[simp] theorem State.driveNotice_selector (r : StepResult) :
    (s.driveNotice r).selector = s.selector := by
  unfold State.driveNotice; split <;> simp

@[simp] theorem State.driveNotice_estimator (r : StepResult) :
    (s.driveNotice r).estimator = s.estimator := by
  unfold State.driveNotice; split <;> simp

@[simp] theorem State.driveNotice_drive (r : StepResult) :
    (s.driveNotice r).drive = s.drive := by
  unfold State.driveNotice; split <;> simp

@[simp] theorem State.driveNotice_brake (r : StepResult) :
    (s.driveNotice r).brake = s.brake := by
  unfold State.driveNotice; split <;> simp

@[simp] theorem State.driveNotice_publisher (r : StepResult) :
    (s.driveNotice r).publisher = s.publisher := by
  unfold State.driveNotice; split <;> simp

@[simp] theorem State.driveNotice_generator (r : StepResult) :
    (s.driveNotice r).generator = s.generator := by
  unfold State.driveNotice; split <;> simp

@[simp] theorem State.driveNotice_monitor (r : StepResult) :
    (s.driveNotice r).monitor = s.monitor := by
  unfold State.driveNotice; split <;> simp

@[simp] theorem State.driveNotice_responder (r : StepResult) :
    (s.driveNotice r).responder = s.responder := by
  unfold State.driveNotice; split <;> simp

@[simp] theorem State.onsetNotice_now (abs : Option Bool) (memory : Bool) :
    (s.onsetNotice abs memory).now = s.now := by
  unfold State.onsetNotice; split; split <;> simp; rfl

@[simp] theorem State.onsetNotice_pending (abs : Option Bool) (memory : Bool) :
    (s.onsetNotice abs memory).pending = s.pending := by
  unfold State.onsetNotice; split; split <;> simp; rfl

@[simp] theorem State.onsetNotice_draws (abs : Option Bool) (memory : Bool) :
    (s.onsetNotice abs memory).draws = s.draws := by
  unfold State.onsetNotice; split; split <;> simp; rfl

@[simp] theorem State.onsetNotice_memory (abs : Option Bool) (memory : Bool) :
    (s.onsetNotice abs memory).memory = s.memory := by
  unfold State.onsetNotice; split; split <;> simp; rfl

@[simp] theorem State.onsetNotice_loader (abs : Option Bool) (memory : Bool) :
    (s.onsetNotice abs memory).loader = s.loader := by
  unfold State.onsetNotice; split; split <;> simp; rfl

@[simp] theorem State.onsetNotice_link (abs : Option Bool) (memory : Bool) :
    (s.onsetNotice abs memory).link = s.link := by
  unfold State.onsetNotice; split; split <;> simp; rfl

@[simp] theorem State.onsetNotice_topics (abs : Option Bool) (memory : Bool) :
    (s.onsetNotice abs memory).topics = s.topics := by
  unfold State.onsetNotice; split; split <;> simp; rfl

@[simp] theorem State.onsetNotice_selector (abs : Option Bool) (memory : Bool) :
    (s.onsetNotice abs memory).selector = s.selector := by
  unfold State.onsetNotice; split; split <;> simp; rfl

@[simp] theorem State.onsetNotice_estimator (abs : Option Bool) (memory : Bool) :
    (s.onsetNotice abs memory).estimator = s.estimator := by
  unfold State.onsetNotice; split; split <;> simp; rfl

@[simp] theorem State.onsetNotice_drive (abs : Option Bool) (memory : Bool) :
    (s.onsetNotice abs memory).drive = s.drive := by
  unfold State.onsetNotice; split; split <;> simp; rfl

@[simp] theorem State.onsetNotice_brake (abs : Option Bool) (memory : Bool) :
    (s.onsetNotice abs memory).brake = s.brake := by
  unfold State.onsetNotice; split; split <;> simp; rfl

@[simp] theorem State.onsetNotice_publisher (abs : Option Bool) (memory : Bool) :
    (s.onsetNotice abs memory).publisher = s.publisher := by
  unfold State.onsetNotice; split; split <;> simp; rfl

@[simp] theorem State.onsetNotice_generator (abs : Option Bool) (memory : Bool) :
    (s.onsetNotice abs memory).generator = s.generator := by
  unfold State.onsetNotice; split; split <;> simp; rfl

@[simp] theorem State.onsetNotice_monitor (abs : Option Bool) (memory : Bool) :
    (s.onsetNotice abs memory).monitor = s.monitor := by
  unfold State.onsetNotice; split; split <;> simp; rfl

@[simp] theorem State.onsetNotice_responder (abs : Option Bool) (memory : Bool) :
    (s.onsetNotice abs memory).responder = s.responder := by
  unfold State.onsetNotice; split; split <;> simp; rfl

/-! ### The selector -/

@[simp] theorem State.recomputeLoad_now :
    (s.recomputeLoad).now = s.now := by
  simp [State.recomputeLoad]

@[simp] theorem State.recomputeLoad_pending :
    (s.recomputeLoad).pending = s.pending := by
  simp [State.recomputeLoad]

@[simp] theorem State.recomputeLoad_draws :
    (s.recomputeLoad).draws = s.draws := by
  simp [State.recomputeLoad]

@[simp] theorem State.recomputeLoad_memory :
    (s.recomputeLoad).memory = s.memory := by
  simp [State.recomputeLoad]

@[simp] theorem State.recomputeLoad_loader :
    (s.recomputeLoad).loader = s.loader := by
  simp [State.recomputeLoad]

@[simp] theorem State.recomputeLoad_link :
    (s.recomputeLoad).link = s.link := by
  simp [State.recomputeLoad]

@[simp] theorem State.recomputeLoad_topics :
    (s.recomputeLoad).topics = s.topics := by
  simp [State.recomputeLoad]

@[simp] theorem State.recomputeLoad_estimator :
    (s.recomputeLoad).estimator = s.estimator := by
  simp [State.recomputeLoad]

@[simp] theorem State.recomputeLoad_drive :
    (s.recomputeLoad).drive = s.drive := by
  simp [State.recomputeLoad]

@[simp] theorem State.recomputeLoad_brake :
    (s.recomputeLoad).brake = s.brake := by
  simp [State.recomputeLoad]

@[simp] theorem State.recomputeLoad_publisher :
    (s.recomputeLoad).publisher = s.publisher := by
  simp [State.recomputeLoad]

@[simp] theorem State.recomputeLoad_generator :
    (s.recomputeLoad).generator = s.generator := by
  simp [State.recomputeLoad]

@[simp] theorem State.recomputeLoad_monitor :
    (s.recomputeLoad).monitor = s.monitor := by
  simp [State.recomputeLoad]

@[simp] theorem State.recomputeLoad_responder :
    (s.recomputeLoad).responder = s.responder := by
  simp [State.recomputeLoad]

@[simp] theorem State.recomputeIfOpen_now :
    (s.recomputeIfOpen).now = s.now := by
  unfold State.recomputeIfOpen; split <;> simp

@[simp] theorem State.recomputeIfOpen_pending :
    (s.recomputeIfOpen).pending = s.pending := by
  unfold State.recomputeIfOpen; split <;> simp

@[simp] theorem State.recomputeIfOpen_draws :
    (s.recomputeIfOpen).draws = s.draws := by
  unfold State.recomputeIfOpen; split <;> simp

@[simp] theorem State.recomputeIfOpen_memory :
    (s.recomputeIfOpen).memory = s.memory := by
  unfold State.recomputeIfOpen; split <;> simp

@[simp] theorem State.recomputeIfOpen_loader :
    (s.recomputeIfOpen).loader = s.loader := by
  unfold State.recomputeIfOpen; split <;> simp

@[simp] theorem State.recomputeIfOpen_link :
    (s.recomputeIfOpen).link = s.link := by
  unfold State.recomputeIfOpen; split <;> simp

@[simp] theorem State.recomputeIfOpen_topics :
    (s.recomputeIfOpen).topics = s.topics := by
  unfold State.recomputeIfOpen; split <;> simp

@[simp] theorem State.recomputeIfOpen_estimator :
    (s.recomputeIfOpen).estimator = s.estimator := by
  unfold State.recomputeIfOpen; split <;> simp

@[simp] theorem State.recomputeIfOpen_drive :
    (s.recomputeIfOpen).drive = s.drive := by
  unfold State.recomputeIfOpen; split <;> simp

@[simp] theorem State.recomputeIfOpen_brake :
    (s.recomputeIfOpen).brake = s.brake := by
  unfold State.recomputeIfOpen; split <;> simp

@[simp] theorem State.recomputeIfOpen_publisher :
    (s.recomputeIfOpen).publisher = s.publisher := by
  unfold State.recomputeIfOpen; split <;> simp

@[simp] theorem State.recomputeIfOpen_generator :
    (s.recomputeIfOpen).generator = s.generator := by
  unfold State.recomputeIfOpen; split <;> simp

@[simp] theorem State.recomputeIfOpen_monitor :
    (s.recomputeIfOpen).monitor = s.monitor := by
  unfold State.recomputeIfOpen; split <;> simp

@[simp] theorem State.recomputeIfOpen_responder :
    (s.recomputeIfOpen).responder = s.responder := by
  unfold State.recomputeIfOpen; split <;> simp

@[simp] theorem State.latchArrival_now :
    (s.latchArrival).now = s.now := by
  unfold State.latchArrival; split <;> simp

@[simp] theorem State.latchArrival_pending :
    (s.latchArrival).pending = s.pending := by
  unfold State.latchArrival; split <;> simp

@[simp] theorem State.latchArrival_draws :
    (s.latchArrival).draws = s.draws := by
  unfold State.latchArrival; split <;> simp

@[simp] theorem State.latchArrival_memory :
    (s.latchArrival).memory = s.memory := by
  unfold State.latchArrival; split <;> simp

@[simp] theorem State.latchArrival_loader :
    (s.latchArrival).loader = s.loader := by
  unfold State.latchArrival; split <;> simp

@[simp] theorem State.latchArrival_link :
    (s.latchArrival).link = s.link := by
  unfold State.latchArrival; split <;> simp

@[simp] theorem State.latchArrival_topics :
    (s.latchArrival).topics = s.topics := by
  unfold State.latchArrival; split <;> simp

@[simp] theorem State.latchArrival_estimator :
    (s.latchArrival).estimator = s.estimator := by
  unfold State.latchArrival; split <;> simp

@[simp] theorem State.latchArrival_grip :
    (s.latchArrival).grip = s.grip := by
  unfold State.latchArrival; split <;> simp

@[simp] theorem State.latchArrival_drive :
    (s.latchArrival).drive = s.drive := by
  unfold State.latchArrival; split <;> simp

@[simp] theorem State.latchArrival_brake :
    (s.latchArrival).brake = s.brake := by
  unfold State.latchArrival; split <;> simp

@[simp] theorem State.latchArrival_publisher :
    (s.latchArrival).publisher = s.publisher := by
  unfold State.latchArrival; split <;> simp

@[simp] theorem State.latchArrival_generator :
    (s.latchArrival).generator = s.generator := by
  unfold State.latchArrival; split <;> simp

@[simp] theorem State.latchArrival_monitor :
    (s.latchArrival).monitor = s.monitor := by
  unfold State.latchArrival; split <;> simp

@[simp] theorem State.latchArrival_responder :
    (s.latchArrival).responder = s.responder := by
  unfold State.latchArrival; split <;> simp

@[simp] theorem State.requestArrival_now :
    (s.requestArrival).now = s.now := by
  unfold State.requestArrival; split <;> simp

@[simp] theorem State.requestArrival_pending :
    (s.requestArrival).pending = s.pending := by
  unfold State.requestArrival; split <;> simp

@[simp] theorem State.requestArrival_draws :
    (s.requestArrival).draws = s.draws := by
  unfold State.requestArrival; split <;> simp

@[simp] theorem State.requestArrival_memory :
    (s.requestArrival).memory = s.memory := by
  unfold State.requestArrival; split <;> simp

@[simp] theorem State.requestArrival_loader :
    (s.requestArrival).loader = s.loader := by
  unfold State.requestArrival; split <;> simp

@[simp] theorem State.requestArrival_link :
    (s.requestArrival).link = s.link := by
  unfold State.requestArrival; split <;> simp

@[simp] theorem State.requestArrival_topics :
    (s.requestArrival).topics = s.topics := by
  unfold State.requestArrival; split <;> simp

@[simp] theorem State.requestArrival_estimator :
    (s.requestArrival).estimator = s.estimator := by
  unfold State.requestArrival; split <;> simp

@[simp] theorem State.requestArrival_grip :
    (s.requestArrival).grip = s.grip := by
  unfold State.requestArrival; split <;> simp

@[simp] theorem State.requestArrival_drive :
    (s.requestArrival).drive = s.drive := by
  unfold State.requestArrival; split <;> simp

@[simp] theorem State.requestArrival_brake :
    (s.requestArrival).brake = s.brake := by
  unfold State.requestArrival; split <;> simp

@[simp] theorem State.requestArrival_publisher :
    (s.requestArrival).publisher = s.publisher := by
  unfold State.requestArrival; split <;> simp

@[simp] theorem State.requestArrival_generator :
    (s.requestArrival).generator = s.generator := by
  unfold State.requestArrival; split <;> simp

@[simp] theorem State.requestArrival_monitor :
    (s.requestArrival).monitor = s.monitor := by
  unfold State.requestArrival; split <;> simp

@[simp] theorem State.requestArrival_responder :
    (s.requestArrival).responder = s.responder := by
  unfold State.requestArrival; split <;> simp

@[simp] theorem State.testAdoption_now :
    (s.testAdoption).now = s.now := by
  unfold State.testAdoption; split; split <;> simp; rfl

@[simp] theorem State.testAdoption_pending :
    (s.testAdoption).pending = s.pending := by
  unfold State.testAdoption; split; split <;> simp; rfl

@[simp] theorem State.testAdoption_draws :
    (s.testAdoption).draws = s.draws := by
  unfold State.testAdoption; split; split <;> simp; rfl

@[simp] theorem State.testAdoption_memory :
    (s.testAdoption).memory = s.memory := by
  unfold State.testAdoption; split; split <;> simp; rfl

@[simp] theorem State.testAdoption_loader :
    (s.testAdoption).loader = s.loader := by
  unfold State.testAdoption; split; split <;> simp; rfl

@[simp] theorem State.testAdoption_link :
    (s.testAdoption).link = s.link := by
  unfold State.testAdoption; split; split <;> simp; rfl

@[simp] theorem State.testAdoption_topics :
    (s.testAdoption).topics = s.topics := by
  unfold State.testAdoption; split; split <;> simp; rfl

@[simp] theorem State.testAdoption_estimator :
    (s.testAdoption).estimator = s.estimator := by
  unfold State.testAdoption; split; split <;> simp; rfl

@[simp] theorem State.testAdoption_grip :
    (s.testAdoption).grip = s.grip := by
  unfold State.testAdoption; split; split <;> simp; rfl

@[simp] theorem State.testAdoption_drive :
    (s.testAdoption).drive = s.drive := by
  unfold State.testAdoption; split; split <;> simp; rfl

@[simp] theorem State.testAdoption_brake :
    (s.testAdoption).brake = s.brake := by
  unfold State.testAdoption; split; split <;> simp; rfl

@[simp] theorem State.testAdoption_publisher :
    (s.testAdoption).publisher = s.publisher := by
  unfold State.testAdoption; split; split <;> simp; rfl

@[simp] theorem State.testAdoption_generator :
    (s.testAdoption).generator = s.generator := by
  unfold State.testAdoption; split; split <;> simp; rfl

@[simp] theorem State.testAdoption_monitor :
    (s.testAdoption).monitor = s.monitor := by
  unfold State.testAdoption; split; split <;> simp; rfl

@[simp] theorem State.testAdoption_responder :
    (s.testAdoption).responder = s.responder := by
  unfold State.testAdoption; split; split <;> simp; rfl

@[simp] theorem State.dashArrival_now :
    (s.dashArrival).now = s.now := by
  simp [State.dashArrival]

@[simp] theorem State.dashArrival_pending :
    (s.dashArrival).pending = s.pending := by
  simp [State.dashArrival]

@[simp] theorem State.dashArrival_draws :
    (s.dashArrival).draws = s.draws := by
  simp [State.dashArrival]

@[simp] theorem State.dashArrival_memory :
    (s.dashArrival).memory = s.memory := by
  simp [State.dashArrival]

@[simp] theorem State.dashArrival_loader :
    (s.dashArrival).loader = s.loader := by
  simp [State.dashArrival]

@[simp] theorem State.dashArrival_link :
    (s.dashArrival).link = s.link := by
  simp [State.dashArrival]

@[simp] theorem State.dashArrival_topics :
    (s.dashArrival).topics = s.topics := by
  simp [State.dashArrival]

@[simp] theorem State.dashArrival_estimator :
    (s.dashArrival).estimator = s.estimator := by
  simp [State.dashArrival]

@[simp] theorem State.dashArrival_drive :
    (s.dashArrival).drive = s.drive := by
  simp [State.dashArrival]

@[simp] theorem State.dashArrival_brake :
    (s.dashArrival).brake = s.brake := by
  simp [State.dashArrival]

@[simp] theorem State.dashArrival_publisher :
    (s.dashArrival).publisher = s.publisher := by
  simp [State.dashArrival]

@[simp] theorem State.dashArrival_generator :
    (s.dashArrival).generator = s.generator := by
  simp [State.dashArrival]

@[simp] theorem State.dashArrival_monitor :
    (s.dashArrival).monitor = s.monitor := by
  simp [State.dashArrival]

@[simp] theorem State.dashArrival_responder :
    (s.dashArrival).responder = s.responder := by
  simp [State.dashArrival]

@[simp] theorem State.dashStale_now :
    (s.dashStale).now = s.now := by
  simp [State.dashStale]

@[simp] theorem State.dashStale_pending :
    (s.dashStale).pending = s.pending := by
  simp [State.dashStale]

@[simp] theorem State.dashStale_draws :
    (s.dashStale).draws = s.draws := by
  simp [State.dashStale]

@[simp] theorem State.dashStale_memory :
    (s.dashStale).memory = s.memory := by
  simp [State.dashStale]

@[simp] theorem State.dashStale_loader :
    (s.dashStale).loader = s.loader := by
  simp [State.dashStale]

@[simp] theorem State.dashStale_link :
    (s.dashStale).link = s.link := by
  simp [State.dashStale]

@[simp] theorem State.dashStale_topics :
    (s.dashStale).topics = s.topics := by
  simp [State.dashStale]

@[simp] theorem State.dashStale_estimator :
    (s.dashStale).estimator = s.estimator := by
  simp [State.dashStale]

@[simp] theorem State.dashStale_drive :
    (s.dashStale).drive = s.drive := by
  simp [State.dashStale]

@[simp] theorem State.dashStale_brake :
    (s.dashStale).brake = s.brake := by
  simp [State.dashStale]

@[simp] theorem State.dashStale_publisher :
    (s.dashStale).publisher = s.publisher := by
  simp [State.dashStale]

@[simp] theorem State.dashStale_generator :
    (s.dashStale).generator = s.generator := by
  simp [State.dashStale]

@[simp] theorem State.dashStale_monitor :
    (s.dashStale).monitor = s.monitor := by
  simp [State.dashStale]

@[simp] theorem State.dashStale_responder :
    (s.dashStale).responder = s.responder := by
  simp [State.dashStale]

/-! ### The estimator -/

@[simp] theorem State.refreshLeanConditions_now (r : LeanRecord) :
    (s.refreshLeanConditions r).now = s.now := by
  simp [State.refreshLeanConditions]

@[simp] theorem State.refreshLeanConditions_pending (r : LeanRecord) :
    (s.refreshLeanConditions r).pending = s.pending := by
  simp [State.refreshLeanConditions]

@[simp] theorem State.refreshLeanConditions_draws (r : LeanRecord) :
    (s.refreshLeanConditions r).draws = s.draws := by
  simp [State.refreshLeanConditions]

@[simp] theorem State.refreshLeanConditions_memory (r : LeanRecord) :
    (s.refreshLeanConditions r).memory = s.memory := by
  simp [State.refreshLeanConditions]

@[simp] theorem State.refreshLeanConditions_loader (r : LeanRecord) :
    (s.refreshLeanConditions r).loader = s.loader := by
  simp [State.refreshLeanConditions]

@[simp] theorem State.refreshLeanConditions_topics (r : LeanRecord) :
    (s.refreshLeanConditions r).topics = s.topics := by
  simp [State.refreshLeanConditions]

@[simp] theorem State.refreshLeanConditions_selector (r : LeanRecord) :
    (s.refreshLeanConditions r).selector = s.selector := by
  simp [State.refreshLeanConditions]

@[simp] theorem State.refreshLeanConditions_estimator (r : LeanRecord) :
    (s.refreshLeanConditions r).estimator = s.estimator := by
  simp [State.refreshLeanConditions]

@[simp] theorem State.refreshLeanConditions_grip (r : LeanRecord) :
    (s.refreshLeanConditions r).grip = s.grip := by
  simp [State.refreshLeanConditions]

@[simp] theorem State.refreshLeanConditions_drive (r : LeanRecord) :
    (s.refreshLeanConditions r).drive = s.drive := by
  simp [State.refreshLeanConditions]

@[simp] theorem State.refreshLeanConditions_brake (r : LeanRecord) :
    (s.refreshLeanConditions r).brake = s.brake := by
  simp [State.refreshLeanConditions]

@[simp] theorem State.refreshLeanConditions_generator (r : LeanRecord) :
    (s.refreshLeanConditions r).generator = s.generator := by
  simp [State.refreshLeanConditions]

@[simp] theorem State.refreshLeanConditions_responder (r : LeanRecord) :
    (s.refreshLeanConditions r).responder = s.responder := by
  simp [State.refreshLeanConditions]

@[simp] theorem State.estimate_now (cause : LeanCause) :
    (s.estimate cause).now = s.now := by
  simp [State.estimate, State.refreshBase]

@[simp] theorem State.estimate_pending (cause : LeanCause) :
    (s.estimate cause).pending = s.pending := by
  simp [State.estimate, State.refreshBase]

@[simp] theorem State.estimate_draws (cause : LeanCause) :
    (s.estimate cause).draws = s.draws := by
  simp [State.estimate, State.refreshBase]

@[simp] theorem State.estimate_memory (cause : LeanCause) :
    (s.estimate cause).memory = s.memory := by
  simp [State.estimate, State.refreshBase]

@[simp] theorem State.estimate_loader (cause : LeanCause) :
    (s.estimate cause).loader = s.loader := by
  simp [State.estimate, State.refreshBase]

@[simp] theorem State.estimate_topics (cause : LeanCause) :
    (s.estimate cause).topics = s.topics := by
  simp [State.estimate, State.refreshBase]

@[simp] theorem State.estimate_selector (cause : LeanCause) :
    (s.estimate cause).selector = s.selector := by
  simp [State.estimate, State.refreshBase]

@[simp] theorem State.estimate_drive (cause : LeanCause) :
    (s.estimate cause).drive = s.drive := by
  simp [State.estimate, State.refreshBase]

@[simp] theorem State.estimate_brake (cause : LeanCause) :
    (s.estimate cause).brake = s.brake := by
  simp [State.estimate, State.refreshBase]

@[simp] theorem State.estimate_generator (cause : LeanCause) :
    (s.estimate cause).generator = s.generator := by
  simp [State.estimate, State.refreshBase]

@[simp] theorem State.estimate_responder (cause : LeanCause) :
    (s.estimate cause).responder = s.responder := by
  simp [State.estimate, State.refreshBase]

@[simp] theorem State.podArrival_now :
    (s.podArrival).now = s.now := by
  unfold State.podArrival; split <;> simp

@[simp] theorem State.podArrival_pending :
    (s.podArrival).pending = s.pending := by
  unfold State.podArrival; split <;> simp

@[simp] theorem State.podArrival_draws :
    (s.podArrival).draws = s.draws := by
  unfold State.podArrival; split <;> simp

@[simp] theorem State.podArrival_memory :
    (s.podArrival).memory = s.memory := by
  unfold State.podArrival; split <;> simp

@[simp] theorem State.podArrival_loader :
    (s.podArrival).loader = s.loader := by
  unfold State.podArrival; split <;> simp

@[simp] theorem State.podArrival_topics :
    (s.podArrival).topics = s.topics := by
  unfold State.podArrival; split <;> simp

@[simp] theorem State.podArrival_selector :
    (s.podArrival).selector = s.selector := by
  unfold State.podArrival; split <;> simp

@[simp] theorem State.podArrival_drive :
    (s.podArrival).drive = s.drive := by
  unfold State.podArrival; split <;> simp

@[simp] theorem State.podArrival_brake :
    (s.podArrival).brake = s.brake := by
  unfold State.podArrival; split <;> simp

@[simp] theorem State.podArrival_generator :
    (s.podArrival).generator = s.generator := by
  unfold State.podArrival; split <;> simp

@[simp] theorem State.podArrival_responder :
    (s.podArrival).responder = s.responder := by
  unfold State.podArrival; split <;> simp

/-! ### The publisher -/

@[simp] theorem State.offerLimit_now (c : Consumer) (v : LimitValue) :
    (s.offerLimit c v).now = s.now := by
  simp [State.offerLimit]

@[simp] theorem State.offerLimit_pending (c : Consumer) (v : LimitValue) :
    (s.offerLimit c v).pending = s.pending := by
  simp [State.offerLimit]

@[simp] theorem State.offerLimit_draws (c : Consumer) (v : LimitValue) :
    (s.offerLimit c v).draws = s.draws := by
  simp [State.offerLimit]

@[simp] theorem State.offerLimit_memory (c : Consumer) (v : LimitValue) :
    (s.offerLimit c v).memory = s.memory := by
  simp [State.offerLimit]

@[simp] theorem State.offerLimit_loader (c : Consumer) (v : LimitValue) :
    (s.offerLimit c v).loader = s.loader := by
  simp [State.offerLimit]

@[simp] theorem State.offerLimit_topics (c : Consumer) (v : LimitValue) :
    (s.offerLimit c v).topics = s.topics := by
  simp [State.offerLimit]

@[simp] theorem State.offerLimit_selector (c : Consumer) (v : LimitValue) :
    (s.offerLimit c v).selector = s.selector := by
  simp [State.offerLimit]

@[simp] theorem State.offerLimit_estimator (c : Consumer) (v : LimitValue) :
    (s.offerLimit c v).estimator = s.estimator := by
  simp [State.offerLimit]

@[simp] theorem State.offerLimit_grip (c : Consumer) (v : LimitValue) :
    (s.offerLimit c v).grip = s.grip := by
  simp [State.offerLimit]

@[simp] theorem State.offerLimit_drive (c : Consumer) (v : LimitValue) :
    (s.offerLimit c v).drive = s.drive := by
  simp [State.offerLimit]

@[simp] theorem State.offerLimit_brake (c : Consumer) (v : LimitValue) :
    (s.offerLimit c v).brake = s.brake := by
  simp [State.offerLimit]

@[simp] theorem State.offerLimit_generator (c : Consumer) (v : LimitValue) :
    (s.offerLimit c v).generator = s.generator := by
  simp [State.offerLimit]

@[simp] theorem State.offerLimit_monitor (c : Consumer) (v : LimitValue) :
    (s.offerLimit c v).monitor = s.monitor := by
  simp [State.offerLimit]

@[simp] theorem State.offerLimit_responder (c : Consumer) (v : LimitValue) :
    (s.offerLimit c v).responder = s.responder := by
  simp [State.offerLimit]

@[simp] theorem State.publishLimit_now (c : Consumer) (v : LimitValue) :
    (s.publishLimit c v).now = s.now := by
  unfold State.publishLimit; split <;> simp

@[simp] theorem State.publishLimit_pending (c : Consumer) (v : LimitValue) :
    (s.publishLimit c v).pending = s.pending := by
  unfold State.publishLimit; split <;> simp

@[simp] theorem State.publishLimit_draws (c : Consumer) (v : LimitValue) :
    (s.publishLimit c v).draws = s.draws := by
  unfold State.publishLimit; split <;> simp

@[simp] theorem State.publishLimit_memory (c : Consumer) (v : LimitValue) :
    (s.publishLimit c v).memory = s.memory := by
  unfold State.publishLimit; split <;> simp

@[simp] theorem State.publishLimit_loader (c : Consumer) (v : LimitValue) :
    (s.publishLimit c v).loader = s.loader := by
  unfold State.publishLimit; split <;> simp

@[simp] theorem State.publishLimit_topics (c : Consumer) (v : LimitValue) :
    (s.publishLimit c v).topics = s.topics := by
  unfold State.publishLimit; split <;> simp

@[simp] theorem State.publishLimit_selector (c : Consumer) (v : LimitValue) :
    (s.publishLimit c v).selector = s.selector := by
  unfold State.publishLimit; split <;> simp

@[simp] theorem State.publishLimit_estimator (c : Consumer) (v : LimitValue) :
    (s.publishLimit c v).estimator = s.estimator := by
  unfold State.publishLimit; split <;> simp

@[simp] theorem State.publishLimit_grip (c : Consumer) (v : LimitValue) :
    (s.publishLimit c v).grip = s.grip := by
  unfold State.publishLimit; split <;> simp

@[simp] theorem State.publishLimit_drive (c : Consumer) (v : LimitValue) :
    (s.publishLimit c v).drive = s.drive := by
  unfold State.publishLimit; split <;> simp

@[simp] theorem State.publishLimit_brake (c : Consumer) (v : LimitValue) :
    (s.publishLimit c v).brake = s.brake := by
  unfold State.publishLimit; split <;> simp

@[simp] theorem State.publishLimit_generator (c : Consumer) (v : LimitValue) :
    (s.publishLimit c v).generator = s.generator := by
  unfold State.publishLimit; split <;> simp

@[simp] theorem State.publishLimit_monitor (c : Consumer) (v : LimitValue) :
    (s.publishLimit c v).monitor = s.monitor := by
  unfold State.publishLimit; split <;> simp

@[simp] theorem State.publishLimit_responder (c : Consumer) (v : LimitValue) :
    (s.publishLimit c v).responder = s.responder := by
  unfold State.publishLimit; split <;> simp

@[simp] theorem State.setTrack_now (c : Consumer) (t : Track) :
    (s.setTrack c t).now = s.now := by
  simp [State.setTrack]

@[simp] theorem State.setTrack_pending (c : Consumer) (t : Track) :
    (s.setTrack c t).pending = s.pending := by
  simp [State.setTrack]

@[simp] theorem State.setTrack_draws (c : Consumer) (t : Track) :
    (s.setTrack c t).draws = s.draws := by
  simp [State.setTrack]

@[simp] theorem State.setTrack_memory (c : Consumer) (t : Track) :
    (s.setTrack c t).memory = s.memory := by
  simp [State.setTrack]

@[simp] theorem State.setTrack_loader (c : Consumer) (t : Track) :
    (s.setTrack c t).loader = s.loader := by
  simp [State.setTrack]

@[simp] theorem State.setTrack_topics (c : Consumer) (t : Track) :
    (s.setTrack c t).topics = s.topics := by
  simp [State.setTrack]

@[simp] theorem State.setTrack_selector (c : Consumer) (t : Track) :
    (s.setTrack c t).selector = s.selector := by
  simp [State.setTrack]

@[simp] theorem State.setTrack_estimator (c : Consumer) (t : Track) :
    (s.setTrack c t).estimator = s.estimator := by
  simp [State.setTrack]

@[simp] theorem State.setTrack_grip (c : Consumer) (t : Track) :
    (s.setTrack c t).grip = s.grip := by
  simp [State.setTrack]

@[simp] theorem State.setTrack_drive (c : Consumer) (t : Track) :
    (s.setTrack c t).drive = s.drive := by
  simp [State.setTrack]

@[simp] theorem State.setTrack_brake (c : Consumer) (t : Track) :
    (s.setTrack c t).brake = s.brake := by
  simp [State.setTrack]

@[simp] theorem State.setTrack_generator (c : Consumer) (t : Track) :
    (s.setTrack c t).generator = s.generator := by
  simp [State.setTrack]

@[simp] theorem State.setTrack_responder (c : Consumer) (t : Track) :
    (s.setTrack c t).responder = s.responder := by
  simp [State.setTrack]

@[simp] theorem State.echoArrival_now (c : Consumer) :
    (s.echoArrival c).now = s.now := by
  simp [State.echoArrival]

@[simp] theorem State.echoArrival_pending (c : Consumer) :
    (s.echoArrival c).pending = s.pending := by
  simp [State.echoArrival]

@[simp] theorem State.echoArrival_draws (c : Consumer) :
    (s.echoArrival c).draws = s.draws := by
  simp [State.echoArrival]

@[simp] theorem State.echoArrival_memory (c : Consumer) :
    (s.echoArrival c).memory = s.memory := by
  simp [State.echoArrival]

@[simp] theorem State.echoArrival_loader (c : Consumer) :
    (s.echoArrival c).loader = s.loader := by
  simp [State.echoArrival]

@[simp] theorem State.echoArrival_topics (c : Consumer) :
    (s.echoArrival c).topics = s.topics := by
  simp [State.echoArrival]

@[simp] theorem State.echoArrival_selector (c : Consumer) :
    (s.echoArrival c).selector = s.selector := by
  simp [State.echoArrival]

@[simp] theorem State.echoArrival_estimator (c : Consumer) :
    (s.echoArrival c).estimator = s.estimator := by
  simp [State.echoArrival]

@[simp] theorem State.echoArrival_grip (c : Consumer) :
    (s.echoArrival c).grip = s.grip := by
  simp [State.echoArrival]

@[simp] theorem State.echoArrival_drive (c : Consumer) :
    (s.echoArrival c).drive = s.drive := by
  simp [State.echoArrival]

@[simp] theorem State.echoArrival_brake (c : Consumer) :
    (s.echoArrival c).brake = s.brake := by
  simp [State.echoArrival]

@[simp] theorem State.echoArrival_generator (c : Consumer) :
    (s.echoArrival c).generator = s.generator := by
  simp [State.echoArrival]

@[simp] theorem State.echoArrival_responder (c : Consumer) :
    (s.echoArrival c).responder = s.responder := by
  simp [State.echoArrival]

@[simp] theorem State.consumerStale_now (c : Consumer) :
    (s.consumerStale c).now = s.now := by
  simp [State.consumerStale]

@[simp] theorem State.consumerStale_pending (c : Consumer) :
    (s.consumerStale c).pending = s.pending := by
  simp [State.consumerStale]

@[simp] theorem State.consumerStale_draws (c : Consumer) :
    (s.consumerStale c).draws = s.draws := by
  simp [State.consumerStale]

@[simp] theorem State.consumerStale_memory (c : Consumer) :
    (s.consumerStale c).memory = s.memory := by
  simp [State.consumerStale]

@[simp] theorem State.consumerStale_loader (c : Consumer) :
    (s.consumerStale c).loader = s.loader := by
  simp [State.consumerStale]

@[simp] theorem State.consumerStale_topics (c : Consumer) :
    (s.consumerStale c).topics = s.topics := by
  simp [State.consumerStale]

@[simp] theorem State.consumerStale_selector (c : Consumer) :
    (s.consumerStale c).selector = s.selector := by
  simp [State.consumerStale]

@[simp] theorem State.consumerStale_estimator (c : Consumer) :
    (s.consumerStale c).estimator = s.estimator := by
  simp [State.consumerStale]

@[simp] theorem State.consumerStale_grip (c : Consumer) :
    (s.consumerStale c).grip = s.grip := by
  simp [State.consumerStale]

@[simp] theorem State.consumerStale_drive (c : Consumer) :
    (s.consumerStale c).drive = s.drive := by
  simp [State.consumerStale]

@[simp] theorem State.consumerStale_brake (c : Consumer) :
    (s.consumerStale c).brake = s.brake := by
  simp [State.consumerStale]

@[simp] theorem State.consumerStale_generator (c : Consumer) :
    (s.consumerStale c).generator = s.generator := by
  simp [State.consumerStale]

@[simp] theorem State.consumerStale_responder (c : Consumer) :
    (s.consumerStale c).responder = s.responder := by
  simp [State.consumerStale]

@[simp] theorem State.limitOutcome_now (f : TxFrame) (o : TxOutcome) :
    (s.limitOutcome f o).now = s.now := by
  unfold State.limitOutcome; dsimp only; split; split <;> simp; rfl

@[simp] theorem State.limitOutcome_pending (f : TxFrame) (o : TxOutcome) :
    (s.limitOutcome f o).pending = s.pending := by
  unfold State.limitOutcome; dsimp only; split; split <;> simp; rfl

@[simp] theorem State.limitOutcome_draws (f : TxFrame) (o : TxOutcome) :
    (s.limitOutcome f o).draws = s.draws := by
  unfold State.limitOutcome; dsimp only; split; split <;> simp; rfl

@[simp] theorem State.limitOutcome_memory (f : TxFrame) (o : TxOutcome) :
    (s.limitOutcome f o).memory = s.memory := by
  unfold State.limitOutcome; dsimp only; split; split <;> simp; rfl

@[simp] theorem State.limitOutcome_loader (f : TxFrame) (o : TxOutcome) :
    (s.limitOutcome f o).loader = s.loader := by
  unfold State.limitOutcome; dsimp only; split; split <;> simp; rfl

@[simp] theorem State.limitOutcome_topics (f : TxFrame) (o : TxOutcome) :
    (s.limitOutcome f o).topics = s.topics := by
  unfold State.limitOutcome; dsimp only; split; split <;> simp; rfl

@[simp] theorem State.limitOutcome_selector (f : TxFrame) (o : TxOutcome) :
    (s.limitOutcome f o).selector = s.selector := by
  unfold State.limitOutcome; dsimp only; split; split <;> simp; rfl

@[simp] theorem State.limitOutcome_estimator (f : TxFrame) (o : TxOutcome) :
    (s.limitOutcome f o).estimator = s.estimator := by
  unfold State.limitOutcome; dsimp only; split; split <;> simp; rfl

@[simp] theorem State.limitOutcome_grip (f : TxFrame) (o : TxOutcome) :
    (s.limitOutcome f o).grip = s.grip := by
  unfold State.limitOutcome; dsimp only; split; split <;> simp; rfl

@[simp] theorem State.limitOutcome_drive (f : TxFrame) (o : TxOutcome) :
    (s.limitOutcome f o).drive = s.drive := by
  unfold State.limitOutcome; dsimp only; split; split <;> simp; rfl

@[simp] theorem State.limitOutcome_brake (f : TxFrame) (o : TxOutcome) :
    (s.limitOutcome f o).brake = s.brake := by
  unfold State.limitOutcome; dsimp only; split; split <;> simp; rfl

@[simp] theorem State.limitOutcome_generator (f : TxFrame) (o : TxOutcome) :
    (s.limitOutcome f o).generator = s.generator := by
  unfold State.limitOutcome; dsimp only; split; split <;> simp; rfl

@[simp] theorem State.limitOutcome_responder (f : TxFrame) (o : TxOutcome) :
    (s.limitOutcome f o).responder = s.responder := by
  unfold State.limitOutcome; dsimp only; split; split <;> simp; rfl

@[simp] theorem State.handover_now (p : DrivePath) (k : Nat) :
    (s.handover p k).now = s.now := by
  rfl

@[simp] theorem State.handover_pending (p : DrivePath) (k : Nat) :
    (s.handover p k).pending = s.pending := by
  rfl

@[simp] theorem State.handover_draws (p : DrivePath) (k : Nat) :
    (s.handover p k).draws = s.draws := by
  rfl

@[simp] theorem State.handover_memory (p : DrivePath) (k : Nat) :
    (s.handover p k).memory = s.memory := by
  rfl

@[simp] theorem State.handover_loader (p : DrivePath) (k : Nat) :
    (s.handover p k).loader = s.loader := by
  rfl

@[simp] theorem State.handover_link (p : DrivePath) (k : Nat) :
    (s.handover p k).link = s.link := by
  rfl

@[simp] theorem State.handover_topics (p : DrivePath) (k : Nat) :
    (s.handover p k).topics = s.topics := by
  rfl

@[simp] theorem State.handover_selector (p : DrivePath) (k : Nat) :
    (s.handover p k).selector = s.selector := by
  rfl

@[simp] theorem State.handover_estimator (p : DrivePath) (k : Nat) :
    (s.handover p k).estimator = s.estimator := by
  rfl

@[simp] theorem State.handover_grip (p : DrivePath) (k : Nat) :
    (s.handover p k).grip = s.grip := by
  rfl

@[simp] theorem State.handover_drive (p : DrivePath) (k : Nat) :
    (s.handover p k).drive = s.drive := by
  rfl

@[simp] theorem State.handover_brake (p : DrivePath) (k : Nat) :
    (s.handover p k).brake = s.brake := by
  rfl

@[simp] theorem State.handover_publisher (p : DrivePath) (k : Nat) :
    (s.handover p k).publisher = s.publisher := by
  rfl

@[simp] theorem State.handover_monitor (p : DrivePath) (k : Nat) :
    (s.handover p k).monitor = s.monitor := by
  rfl

@[simp] theorem State.handover_responder (p : DrivePath) (k : Nat) :
    (s.handover p k).responder = s.responder := by
  rfl

@[simp] theorem State.tellStep_now (d : Drive) :
    (s.tellStep d).now = s.now := by
  simp [State.tellStep]

@[simp] theorem State.tellStep_pending (d : Drive) :
    (s.tellStep d).pending = s.pending := by
  simp [State.tellStep]

@[simp] theorem State.tellStep_draws (d : Drive) :
    (s.tellStep d).draws = s.draws := by
  simp [State.tellStep]

@[simp] theorem State.tellStep_memory (d : Drive) :
    (s.tellStep d).memory = s.memory := by
  simp [State.tellStep]

@[simp] theorem State.tellStep_loader (d : Drive) :
    (s.tellStep d).loader = s.loader := by
  simp [State.tellStep]

@[simp] theorem State.tellStep_topics (d : Drive) :
    (s.tellStep d).topics = s.topics := by
  simp [State.tellStep]

@[simp] theorem State.tellStep_selector (d : Drive) :
    (s.tellStep d).selector = s.selector := by
  simp [State.tellStep]

@[simp] theorem State.tellStep_estimator (d : Drive) :
    (s.tellStep d).estimator = s.estimator := by
  simp [State.tellStep]

@[simp] theorem State.tellStep_grip (d : Drive) :
    (s.tellStep d).grip = s.grip := by
  simp [State.tellStep]

@[simp] theorem State.tellStep_drive (d : Drive) :
    (s.tellStep d).drive = s.drive := by
  simp [State.tellStep]

@[simp] theorem State.tellStep_brake (d : Drive) :
    (s.tellStep d).brake = s.brake := by
  simp [State.tellStep]

@[simp] theorem State.tellStep_generator (d : Drive) :
    (s.tellStep d).generator = s.generator := by
  simp [State.tellStep]

@[simp] theorem State.tellStep_responder (d : Drive) :
    (s.tellStep d).responder = s.responder := by
  simp [State.tellStep]

/-! ### The two steps -/

@[simp] theorem State.regulationStep_now :
    (s.regulationStep).now = s.now := by
  simp [State.regulationStep]

@[simp] theorem State.regulationStep_pending :
    (s.regulationStep).pending = s.pending := by
  simp [State.regulationStep]

@[simp] theorem State.regulationStep_draws :
    (s.regulationStep).draws = s.draws := by
  simp [State.regulationStep]

@[simp] theorem State.regulationStep_memory :
    (s.regulationStep).memory = s.memory := by
  simp [State.regulationStep]

@[simp] theorem State.regulationStep_loader :
    (s.regulationStep).loader = s.loader := by
  simp [State.regulationStep]

@[simp] theorem State.regulationStep_topics :
    (s.regulationStep).topics = s.topics := by
  simp [State.regulationStep]

@[simp] theorem State.regulationStep_selector :
    (s.regulationStep).selector = s.selector := by
  simp [State.regulationStep]

@[simp] theorem State.regulationStep_estimator :
    (s.regulationStep).estimator = s.estimator := by
  simp [State.regulationStep]

@[simp] theorem State.regulationStep_brake :
    (s.regulationStep).brake = s.brake := by
  simp [State.regulationStep]

@[simp] theorem State.regulationStep_responder :
    (s.regulationStep).responder = s.responder := by
  simp [State.regulationStep]

@[simp] theorem State.brakeStep_now :
    (s.brakeStep).now = s.now := by
  simp [State.brakeStep]

@[simp] theorem State.brakeStep_pending :
    (s.brakeStep).pending = s.pending := by
  simp [State.brakeStep]

@[simp] theorem State.brakeStep_draws :
    (s.brakeStep).draws = s.draws := by
  simp [State.brakeStep]

@[simp] theorem State.brakeStep_memory :
    (s.brakeStep).memory = s.memory := by
  simp [State.brakeStep]

@[simp] theorem State.brakeStep_loader :
    (s.brakeStep).loader = s.loader := by
  simp [State.brakeStep]

@[simp] theorem State.brakeStep_topics :
    (s.brakeStep).topics = s.topics := by
  simp [State.brakeStep]

@[simp] theorem State.brakeStep_selector :
    (s.brakeStep).selector = s.selector := by
  simp [State.brakeStep]

@[simp] theorem State.brakeStep_estimator :
    (s.brakeStep).estimator = s.estimator := by
  simp [State.brakeStep]

@[simp] theorem State.brakeStep_grip :
    (s.brakeStep).grip = s.grip := by
  simp [State.brakeStep]

@[simp] theorem State.brakeStep_drive :
    (s.brakeStep).drive = s.drive := by
  simp [State.brakeStep]

@[simp] theorem State.brakeStep_generator :
    (s.brakeStep).generator = s.generator := by
  simp [State.brakeStep]

@[simp] theorem State.brakeStep_responder :
    (s.brakeStep).responder = s.responder := by
  simp [State.brakeStep]

@[simp] theorem State.absArrival_now :
    (s.absArrival).now = s.now := by
  simp [State.absArrival]

@[simp] theorem State.absArrival_pending :
    (s.absArrival).pending = s.pending := by
  simp [State.absArrival]

@[simp] theorem State.absArrival_draws :
    (s.absArrival).draws = s.draws := by
  simp [State.absArrival]

@[simp] theorem State.absArrival_memory :
    (s.absArrival).memory = s.memory := by
  simp [State.absArrival]

@[simp] theorem State.absArrival_loader :
    (s.absArrival).loader = s.loader := by
  simp [State.absArrival]

@[simp] theorem State.absArrival_link :
    (s.absArrival).link = s.link := by
  simp [State.absArrival]

@[simp] theorem State.absArrival_topics :
    (s.absArrival).topics = s.topics := by
  simp [State.absArrival]

@[simp] theorem State.absArrival_selector :
    (s.absArrival).selector = s.selector := by
  simp [State.absArrival]

@[simp] theorem State.absArrival_estimator :
    (s.absArrival).estimator = s.estimator := by
  simp [State.absArrival]

@[simp] theorem State.absArrival_drive :
    (s.absArrival).drive = s.drive := by
  simp [State.absArrival]

@[simp] theorem State.absArrival_publisher :
    (s.absArrival).publisher = s.publisher := by
  simp [State.absArrival]

@[simp] theorem State.absArrival_generator :
    (s.absArrival).generator = s.generator := by
  simp [State.absArrival]

@[simp] theorem State.absArrival_monitor :
    (s.absArrival).monitor = s.monitor := by
  simp [State.absArrival]

@[simp] theorem State.absArrival_responder :
    (s.absArrival).responder = s.responder := by
  simp [State.absArrival]

/-! ### The link -/

@[simp] theorem State.join_now :
    (s.join).now = s.now := by
  rfl

@[simp] theorem State.join_pending :
    (s.join).pending = s.pending := by
  rfl

@[simp] theorem State.join_draws :
    (s.join).draws = s.draws := by
  rfl

@[simp] theorem State.join_memory :
    (s.join).memory = s.memory := by
  rfl

@[simp] theorem State.join_loader :
    (s.join).loader = s.loader := by
  rfl

@[simp] theorem State.join_topics :
    (s.join).topics = s.topics := by
  rfl

@[simp] theorem State.join_selector :
    (s.join).selector = s.selector := by
  rfl

@[simp] theorem State.join_estimator :
    (s.join).estimator = s.estimator := by
  rfl

@[simp] theorem State.join_grip :
    (s.join).grip = s.grip := by
  rfl

@[simp] theorem State.join_drive :
    (s.join).drive = s.drive := by
  rfl

@[simp] theorem State.join_brake :
    (s.join).brake = s.brake := by
  rfl

@[simp] theorem State.join_publisher :
    (s.join).publisher = s.publisher := by
  rfl

@[simp] theorem State.join_generator :
    (s.join).generator = s.generator := by
  rfl

@[simp] theorem State.join_monitor :
    (s.join).monitor = s.monitor := by
  rfl

@[simp] theorem State.join_responder :
    (s.join).responder = s.responder := by
  rfl

@[simp] theorem State.enterSilent_now :
    (s.enterSilent).now = s.now := by
  unfold State.enterSilent; dsimp only; split <;> simp

@[simp] theorem State.enterSilent_pending :
    (s.enterSilent).pending = s.pending := by
  unfold State.enterSilent; dsimp only; split <;> simp

@[simp] theorem State.enterSilent_draws :
    (s.enterSilent).draws = s.draws := by
  unfold State.enterSilent; dsimp only; split <;> simp

@[simp] theorem State.enterSilent_memory :
    (s.enterSilent).memory = s.memory := by
  unfold State.enterSilent; dsimp only; split <;> simp

@[simp] theorem State.enterSilent_loader :
    (s.enterSilent).loader = s.loader := by
  unfold State.enterSilent; dsimp only; split <;> simp

@[simp] theorem State.enterSilent_selector :
    (s.enterSilent).selector = s.selector := by
  unfold State.enterSilent; dsimp only; split <;> simp

@[simp] theorem State.enterSilent_estimator :
    (s.enterSilent).estimator = s.estimator := by
  unfold State.enterSilent; dsimp only; split <;> simp

@[simp] theorem State.enterSilent_grip :
    (s.enterSilent).grip = s.grip := by
  unfold State.enterSilent; dsimp only; split <;> simp

@[simp] theorem State.enterSilent_drive :
    (s.enterSilent).drive = s.drive := by
  unfold State.enterSilent; dsimp only; split <;> simp

@[simp] theorem State.enterSilent_brake :
    (s.enterSilent).brake = s.brake := by
  unfold State.enterSilent; dsimp only; split <;> simp

@[simp] theorem State.enterSilent_generator :
    (s.enterSilent).generator = s.generator := by
  unfold State.enterSilent; dsimp only; split <;> simp

@[simp] theorem State.enterSilent_responder :
    (s.enterSilent).responder = s.responder := by
  unfold State.enterSilent; dsimp only; split <;> simp

@[simp] theorem State.heardNotice_now :
    (s.heardNotice).now = s.now := by
  unfold State.heardNotice; split <;> (try split) <;> simp

@[simp] theorem State.heardNotice_pending :
    (s.heardNotice).pending = s.pending := by
  unfold State.heardNotice; split <;> (try split) <;> simp

@[simp] theorem State.heardNotice_draws :
    (s.heardNotice).draws = s.draws := by
  unfold State.heardNotice; split <;> (try split) <;> simp

@[simp] theorem State.heardNotice_memory :
    (s.heardNotice).memory = s.memory := by
  unfold State.heardNotice; split <;> (try split) <;> simp

@[simp] theorem State.heardNotice_loader :
    (s.heardNotice).loader = s.loader := by
  unfold State.heardNotice; split <;> (try split) <;> simp

@[simp] theorem State.heardNotice_topics :
    (s.heardNotice).topics = s.topics := by
  unfold State.heardNotice; split <;> (try split) <;> simp

@[simp] theorem State.heardNotice_selector :
    (s.heardNotice).selector = s.selector := by
  unfold State.heardNotice; split <;> (try split) <;> simp

@[simp] theorem State.heardNotice_estimator :
    (s.heardNotice).estimator = s.estimator := by
  unfold State.heardNotice; split <;> (try split) <;> simp

@[simp] theorem State.heardNotice_grip :
    (s.heardNotice).grip = s.grip := by
  unfold State.heardNotice; split <;> (try split) <;> simp

@[simp] theorem State.heardNotice_drive :
    (s.heardNotice).drive = s.drive := by
  unfold State.heardNotice; split <;> (try split) <;> simp

@[simp] theorem State.heardNotice_brake :
    (s.heardNotice).brake = s.brake := by
  unfold State.heardNotice; split <;> (try split) <;> simp

@[simp] theorem State.heardNotice_generator :
    (s.heardNotice).generator = s.generator := by
  unfold State.heardNotice; split <;> (try split) <;> simp

@[simp] theorem State.heardNotice_responder :
    (s.heardNotice).responder = s.responder := by
  unfold State.heardNotice; split <;> (try split) <;> simp

@[simp] theorem State.joinWaitExpired_now :
    (s.joinWaitExpired).now = s.now := by
  simp [State.joinWaitExpired]

@[simp] theorem State.joinWaitExpired_pending :
    (s.joinWaitExpired).pending = s.pending := by
  simp [State.joinWaitExpired]

@[simp] theorem State.joinWaitExpired_draws :
    (s.joinWaitExpired).draws = s.draws := by
  simp [State.joinWaitExpired]

@[simp] theorem State.joinWaitExpired_memory :
    (s.joinWaitExpired).memory = s.memory := by
  simp [State.joinWaitExpired]

@[simp] theorem State.joinWaitExpired_loader :
    (s.joinWaitExpired).loader = s.loader := by
  simp [State.joinWaitExpired]

@[simp] theorem State.joinWaitExpired_topics :
    (s.joinWaitExpired).topics = s.topics := by
  simp [State.joinWaitExpired]

@[simp] theorem State.joinWaitExpired_selector :
    (s.joinWaitExpired).selector = s.selector := by
  simp [State.joinWaitExpired]

@[simp] theorem State.joinWaitExpired_estimator :
    (s.joinWaitExpired).estimator = s.estimator := by
  simp [State.joinWaitExpired]

@[simp] theorem State.joinWaitExpired_grip :
    (s.joinWaitExpired).grip = s.grip := by
  simp [State.joinWaitExpired]

@[simp] theorem State.joinWaitExpired_drive :
    (s.joinWaitExpired).drive = s.drive := by
  simp [State.joinWaitExpired]

@[simp] theorem State.joinWaitExpired_brake :
    (s.joinWaitExpired).brake = s.brake := by
  simp [State.joinWaitExpired]

@[simp] theorem State.joinWaitExpired_generator :
    (s.joinWaitExpired).generator = s.generator := by
  simp [State.joinWaitExpired]

@[simp] theorem State.joinWaitExpired_responder :
    (s.joinWaitExpired).responder = s.responder := by
  simp [State.joinWaitExpired]

@[simp] theorem State.enterMuted_now :
    (s.enterMuted).now = s.now := by
  simp [State.enterMuted]

@[simp] theorem State.enterMuted_pending :
    (s.enterMuted).pending = s.pending := by
  simp [State.enterMuted]

@[simp] theorem State.enterMuted_draws :
    (s.enterMuted).draws = s.draws := by
  simp [State.enterMuted]

@[simp] theorem State.enterMuted_memory :
    (s.enterMuted).memory = s.memory := by
  simp [State.enterMuted]

@[simp] theorem State.enterMuted_loader :
    (s.enterMuted).loader = s.loader := by
  simp [State.enterMuted]

@[simp] theorem State.enterMuted_topics :
    (s.enterMuted).topics = s.topics := by
  simp [State.enterMuted]

@[simp] theorem State.enterMuted_selector :
    (s.enterMuted).selector = s.selector := by
  simp [State.enterMuted]

@[simp] theorem State.enterMuted_estimator :
    (s.enterMuted).estimator = s.estimator := by
  simp [State.enterMuted]

@[simp] theorem State.enterMuted_grip :
    (s.enterMuted).grip = s.grip := by
  simp [State.enterMuted]

@[simp] theorem State.enterMuted_drive :
    (s.enterMuted).drive = s.drive := by
  simp [State.enterMuted]

@[simp] theorem State.enterMuted_brake :
    (s.enterMuted).brake = s.brake := by
  simp [State.enterMuted]

@[simp] theorem State.enterMuted_generator :
    (s.enterMuted).generator = s.generator := by
  simp [State.enterMuted]

@[simp] theorem State.enterMuted_responder :
    (s.enterMuted).responder = s.responder := by
  simp [State.enterMuted]

@[simp] theorem State.countFailure_now :
    (s.countFailure).now = s.now := by
  unfold State.countFailure; dsimp only; split <;> simp

@[simp] theorem State.countFailure_pending :
    (s.countFailure).pending = s.pending := by
  unfold State.countFailure; dsimp only; split <;> simp

@[simp] theorem State.countFailure_draws :
    (s.countFailure).draws = s.draws := by
  unfold State.countFailure; dsimp only; split <;> simp

@[simp] theorem State.countFailure_memory :
    (s.countFailure).memory = s.memory := by
  unfold State.countFailure; dsimp only; split <;> simp

@[simp] theorem State.countFailure_loader :
    (s.countFailure).loader = s.loader := by
  unfold State.countFailure; dsimp only; split <;> simp

@[simp] theorem State.countFailure_topics :
    (s.countFailure).topics = s.topics := by
  unfold State.countFailure; dsimp only; split <;> simp

@[simp] theorem State.countFailure_selector :
    (s.countFailure).selector = s.selector := by
  unfold State.countFailure; dsimp only; split <;> simp

@[simp] theorem State.countFailure_estimator :
    (s.countFailure).estimator = s.estimator := by
  unfold State.countFailure; dsimp only; split <;> simp

@[simp] theorem State.countFailure_grip :
    (s.countFailure).grip = s.grip := by
  unfold State.countFailure; dsimp only; split <;> simp

@[simp] theorem State.countFailure_drive :
    (s.countFailure).drive = s.drive := by
  unfold State.countFailure; dsimp only; split <;> simp

@[simp] theorem State.countFailure_brake :
    (s.countFailure).brake = s.brake := by
  unfold State.countFailure; dsimp only; split <;> simp

@[simp] theorem State.countFailure_generator :
    (s.countFailure).generator = s.generator := by
  unfold State.countFailure; dsimp only; split <;> simp

@[simp] theorem State.countFailure_responder :
    (s.countFailure).responder = s.responder := by
  unfold State.countFailure; dsimp only; split <;> simp

@[simp] theorem State.muteExpired_now :
    (s.muteExpired).now = s.now := by
  simp [State.muteExpired]

@[simp] theorem State.muteExpired_pending :
    (s.muteExpired).pending = s.pending := by
  simp [State.muteExpired]

@[simp] theorem State.muteExpired_draws :
    (s.muteExpired).draws = s.draws := by
  simp [State.muteExpired]

@[simp] theorem State.muteExpired_memory :
    (s.muteExpired).memory = s.memory := by
  simp [State.muteExpired]

@[simp] theorem State.muteExpired_loader :
    (s.muteExpired).loader = s.loader := by
  simp [State.muteExpired]

@[simp] theorem State.muteExpired_selector :
    (s.muteExpired).selector = s.selector := by
  simp [State.muteExpired]

@[simp] theorem State.muteExpired_estimator :
    (s.muteExpired).estimator = s.estimator := by
  simp [State.muteExpired]

@[simp] theorem State.muteExpired_grip :
    (s.muteExpired).grip = s.grip := by
  simp [State.muteExpired]

@[simp] theorem State.muteExpired_drive :
    (s.muteExpired).drive = s.drive := by
  simp [State.muteExpired]

@[simp] theorem State.muteExpired_brake :
    (s.muteExpired).brake = s.brake := by
  simp [State.muteExpired]

@[simp] theorem State.muteExpired_generator :
    (s.muteExpired).generator = s.generator := by
  simp [State.muteExpired]

@[simp] theorem State.muteExpired_responder :
    (s.muteExpired).responder = s.responder := by
  simp [State.muteExpired]

@[simp] theorem State.startFrame_now :
    (s.startFrame).now = s.now := by
  unfold State.startFrame; split <;> simp

@[simp] theorem State.startFrame_pending :
    (s.startFrame).pending = s.pending := by
  unfold State.startFrame; split <;> simp

@[simp] theorem State.startFrame_draws :
    (s.startFrame).draws = s.draws := by
  unfold State.startFrame; split <;> simp

@[simp] theorem State.startFrame_memory :
    (s.startFrame).memory = s.memory := by
  unfold State.startFrame; split <;> simp

@[simp] theorem State.startFrame_loader :
    (s.startFrame).loader = s.loader := by
  unfold State.startFrame; split <;> simp

@[simp] theorem State.startFrame_topics :
    (s.startFrame).topics = s.topics := by
  unfold State.startFrame; split <;> simp

@[simp] theorem State.startFrame_selector :
    (s.startFrame).selector = s.selector := by
  unfold State.startFrame; split <;> simp

@[simp] theorem State.startFrame_estimator :
    (s.startFrame).estimator = s.estimator := by
  unfold State.startFrame; split <;> simp

@[simp] theorem State.startFrame_grip :
    (s.startFrame).grip = s.grip := by
  unfold State.startFrame; split <;> simp

@[simp] theorem State.startFrame_drive :
    (s.startFrame).drive = s.drive := by
  unfold State.startFrame; split <;> simp

@[simp] theorem State.startFrame_brake :
    (s.startFrame).brake = s.brake := by
  unfold State.startFrame; split <;> simp

@[simp] theorem State.startFrame_publisher :
    (s.startFrame).publisher = s.publisher := by
  unfold State.startFrame; split <;> simp

@[simp] theorem State.startFrame_generator :
    (s.startFrame).generator = s.generator := by
  unfold State.startFrame; split <;> simp

@[simp] theorem State.startFrame_monitor :
    (s.startFrame).monitor = s.monitor := by
  unfold State.startFrame; split <;> simp

@[simp] theorem State.startFrame_responder :
    (s.startFrame).responder = s.responder := by
  unfold State.startFrame; split <;> simp

@[simp] theorem State.arbitrate_now (key : Nat) :
    (s.arbitrate key).now = s.now := by
  unfold State.arbitrate; split; · rfl
  · split <;> simp

@[simp] theorem State.arbitrate_pending (key : Nat) :
    (s.arbitrate key).pending = s.pending := by
  unfold State.arbitrate; split; · rfl
  · split <;> simp

@[simp] theorem State.arbitrate_draws (key : Nat) :
    (s.arbitrate key).draws = s.draws := by
  unfold State.arbitrate; split; · rfl
  · split <;> simp

@[simp] theorem State.arbitrate_memory (key : Nat) :
    (s.arbitrate key).memory = s.memory := by
  unfold State.arbitrate; split; · rfl
  · split <;> simp

@[simp] theorem State.arbitrate_loader (key : Nat) :
    (s.arbitrate key).loader = s.loader := by
  unfold State.arbitrate; split; · rfl
  · split <;> simp

@[simp] theorem State.arbitrate_topics (key : Nat) :
    (s.arbitrate key).topics = s.topics := by
  unfold State.arbitrate; split; · rfl
  · split <;> simp

@[simp] theorem State.arbitrate_selector (key : Nat) :
    (s.arbitrate key).selector = s.selector := by
  unfold State.arbitrate; split; · rfl
  · split <;> simp

@[simp] theorem State.arbitrate_estimator (key : Nat) :
    (s.arbitrate key).estimator = s.estimator := by
  unfold State.arbitrate; split; · rfl
  · split <;> simp

@[simp] theorem State.arbitrate_grip (key : Nat) :
    (s.arbitrate key).grip = s.grip := by
  unfold State.arbitrate; split; · rfl
  · split <;> simp

@[simp] theorem State.arbitrate_drive (key : Nat) :
    (s.arbitrate key).drive = s.drive := by
  unfold State.arbitrate; split; · rfl
  · split <;> simp

@[simp] theorem State.arbitrate_brake (key : Nat) :
    (s.arbitrate key).brake = s.brake := by
  unfold State.arbitrate; split; · rfl
  · split <;> simp

@[simp] theorem State.arbitrate_generator (key : Nat) :
    (s.arbitrate key).generator = s.generator := by
  unfold State.arbitrate; split; · rfl
  · split <;> simp

@[simp] theorem State.arbitrate_monitor (key : Nat) :
    (s.arbitrate key).monitor = s.monitor := by
  unfold State.arbitrate; split; · rfl
  · split <;> simp

@[simp] theorem State.arbitrate_responder (key : Nat) :
    (s.arbitrate key).responder = s.responder := by
  unfold State.arbitrate; split; · rfl
  · split <;> simp

@[simp] theorem State.collide_now :
    (s.collide).now = s.now := by
  unfold State.collide; split <;> simp

@[simp] theorem State.collide_pending :
    (s.collide).pending = s.pending := by
  unfold State.collide; split <;> simp

@[simp] theorem State.collide_draws :
    (s.collide).draws = s.draws := by
  unfold State.collide; split <;> simp

@[simp] theorem State.collide_memory :
    (s.collide).memory = s.memory := by
  unfold State.collide; split <;> simp

@[simp] theorem State.collide_loader :
    (s.collide).loader = s.loader := by
  unfold State.collide; split <;> simp

@[simp] theorem State.collide_topics :
    (s.collide).topics = s.topics := by
  unfold State.collide; split <;> simp

@[simp] theorem State.collide_selector :
    (s.collide).selector = s.selector := by
  unfold State.collide; split <;> simp

@[simp] theorem State.collide_estimator :
    (s.collide).estimator = s.estimator := by
  unfold State.collide; split <;> simp

@[simp] theorem State.collide_grip :
    (s.collide).grip = s.grip := by
  unfold State.collide; split <;> simp

@[simp] theorem State.collide_drive :
    (s.collide).drive = s.drive := by
  unfold State.collide; split <;> simp

@[simp] theorem State.collide_brake :
    (s.collide).brake = s.brake := by
  unfold State.collide; split <;> simp

@[simp] theorem State.collide_generator :
    (s.collide).generator = s.generator := by
  unfold State.collide; split <;> simp

@[simp] theorem State.collide_responder :
    (s.collide).responder = s.responder := by
  unfold State.collide; split <;> simp

@[simp] theorem State.afterDelivery_now :
    (s.afterDelivery).now = s.now := by
  simp [State.afterDelivery]

@[simp] theorem State.afterDelivery_pending :
    (s.afterDelivery).pending = s.pending := by
  simp [State.afterDelivery]

@[simp] theorem State.afterDelivery_draws :
    (s.afterDelivery).draws = s.draws := by
  simp [State.afterDelivery]

@[simp] theorem State.afterDelivery_memory :
    (s.afterDelivery).memory = s.memory := by
  simp [State.afterDelivery]

@[simp] theorem State.afterDelivery_loader :
    (s.afterDelivery).loader = s.loader := by
  simp [State.afterDelivery]

@[simp] theorem State.afterDelivery_topics :
    (s.afterDelivery).topics = s.topics := by
  simp [State.afterDelivery]

@[simp] theorem State.afterDelivery_selector :
    (s.afterDelivery).selector = s.selector := by
  simp [State.afterDelivery]

@[simp] theorem State.afterDelivery_estimator :
    (s.afterDelivery).estimator = s.estimator := by
  simp [State.afterDelivery]

@[simp] theorem State.afterDelivery_grip :
    (s.afterDelivery).grip = s.grip := by
  simp [State.afterDelivery]

@[simp] theorem State.afterDelivery_drive :
    (s.afterDelivery).drive = s.drive := by
  simp [State.afterDelivery]

@[simp] theorem State.afterDelivery_brake :
    (s.afterDelivery).brake = s.brake := by
  simp [State.afterDelivery]

@[simp] theorem State.afterDelivery_generator :
    (s.afterDelivery).generator = s.generator := by
  simp [State.afterDelivery]

@[simp] theorem State.afterDelivery_responder :
    (s.afterDelivery).responder = s.responder := by
  simp [State.afterDelivery]

@[simp] theorem State.slotRead_now (a b : Level) :
    (s.slotRead a b).now = s.now := by
  unfold State.slotRead; split; · rfl
  · dsimp only; split <;> simp

@[simp] theorem State.slotRead_pending (a b : Level) :
    (s.slotRead a b).pending = s.pending := by
  unfold State.slotRead; split; · rfl
  · dsimp only; split <;> simp

@[simp] theorem State.slotRead_draws (a b : Level) :
    (s.slotRead a b).draws = s.draws := by
  unfold State.slotRead; split; · rfl
  · dsimp only; split <;> simp

@[simp] theorem State.slotRead_memory (a b : Level) :
    (s.slotRead a b).memory = s.memory := by
  unfold State.slotRead; split; · rfl
  · dsimp only; split <;> simp

@[simp] theorem State.slotRead_loader (a b : Level) :
    (s.slotRead a b).loader = s.loader := by
  unfold State.slotRead; split; · rfl
  · dsimp only; split <;> simp

@[simp] theorem State.slotRead_topics (a b : Level) :
    (s.slotRead a b).topics = s.topics := by
  unfold State.slotRead; split; · rfl
  · dsimp only; split <;> simp

@[simp] theorem State.slotRead_selector (a b : Level) :
    (s.slotRead a b).selector = s.selector := by
  unfold State.slotRead; split; · rfl
  · dsimp only; split <;> simp

@[simp] theorem State.slotRead_estimator (a b : Level) :
    (s.slotRead a b).estimator = s.estimator := by
  unfold State.slotRead; split; · rfl
  · dsimp only; split <;> simp

@[simp] theorem State.slotRead_grip (a b : Level) :
    (s.slotRead a b).grip = s.grip := by
  unfold State.slotRead; split; · rfl
  · dsimp only; split <;> simp

@[simp] theorem State.slotRead_drive (a b : Level) :
    (s.slotRead a b).drive = s.drive := by
  unfold State.slotRead; split; · rfl
  · dsimp only; split <;> simp

@[simp] theorem State.slotRead_brake (a b : Level) :
    (s.slotRead a b).brake = s.brake := by
  unfold State.slotRead; split; · rfl
  · dsimp only; split <;> simp

@[simp] theorem State.slotRead_generator (a b : Level) :
    (s.slotRead a b).generator = s.generator := by
  unfold State.slotRead; split; · rfl
  · dsimp only; split <;> simp

@[simp] theorem State.slotRead_responder (a b : Level) :
    (s.slotRead a b).responder = s.responder := by
  unfold State.slotRead; split; · rfl
  · dsimp only; split <;> simp

/-! ### The chassis reset -/

@[simp] theorem State.resetEstimator_now :
    (s.resetEstimator).now = s.now := by
  simp [State.resetEstimator]

@[simp] theorem State.resetEstimator_pending :
    (s.resetEstimator).pending = s.pending := by
  simp [State.resetEstimator]

@[simp] theorem State.resetEstimator_draws :
    (s.resetEstimator).draws = s.draws := by
  simp [State.resetEstimator]

@[simp] theorem State.resetEstimator_memory :
    (s.resetEstimator).memory = s.memory := by
  simp [State.resetEstimator]

@[simp] theorem State.resetEstimator_loader :
    (s.resetEstimator).loader = s.loader := by
  simp [State.resetEstimator]

@[simp] theorem State.resetEstimator_topics :
    (s.resetEstimator).topics = s.topics := by
  simp [State.resetEstimator]

@[simp] theorem State.resetEstimator_selector :
    (s.resetEstimator).selector = s.selector := by
  simp [State.resetEstimator]

@[simp] theorem State.resetEstimator_grip :
    (s.resetEstimator).grip = s.grip := by
  simp [State.resetEstimator]

@[simp] theorem State.resetEstimator_drive :
    (s.resetEstimator).drive = s.drive := by
  simp [State.resetEstimator]

@[simp] theorem State.resetEstimator_brake :
    (s.resetEstimator).brake = s.brake := by
  simp [State.resetEstimator]

@[simp] theorem State.resetEstimator_generator :
    (s.resetEstimator).generator = s.generator := by
  simp [State.resetEstimator]

@[simp] theorem State.resetEstimator_responder :
    (s.resetEstimator).responder = s.responder := by
  simp [State.resetEstimator]

@[simp] theorem State.resetGrip_now :
    (s.resetGrip).now = s.now := by
  rfl

@[simp] theorem State.resetGrip_pending :
    (s.resetGrip).pending = s.pending := by
  rfl

@[simp] theorem State.resetGrip_draws :
    (s.resetGrip).draws = s.draws := by
  rfl

@[simp] theorem State.resetGrip_memory :
    (s.resetGrip).memory = s.memory := by
  rfl

@[simp] theorem State.resetGrip_loader :
    (s.resetGrip).loader = s.loader := by
  rfl

@[simp] theorem State.resetGrip_link :
    (s.resetGrip).link = s.link := by
  rfl

@[simp] theorem State.resetGrip_topics :
    (s.resetGrip).topics = s.topics := by
  rfl

@[simp] theorem State.resetGrip_selector :
    (s.resetGrip).selector = s.selector := by
  rfl

@[simp] theorem State.resetGrip_estimator :
    (s.resetGrip).estimator = s.estimator := by
  rfl

@[simp] theorem State.resetGrip_drive :
    (s.resetGrip).drive = s.drive := by
  rfl

@[simp] theorem State.resetGrip_brake :
    (s.resetGrip).brake = s.brake := by
  rfl

@[simp] theorem State.resetGrip_publisher :
    (s.resetGrip).publisher = s.publisher := by
  rfl

@[simp] theorem State.resetGrip_generator :
    (s.resetGrip).generator = s.generator := by
  rfl

@[simp] theorem State.resetGrip_monitor :
    (s.resetGrip).monitor = s.monitor := by
  rfl

@[simp] theorem State.resetGrip_responder :
    (s.resetGrip).responder = s.responder := by
  rfl

@[simp] theorem State.resetDrive_now :
    (s.resetDrive).now = s.now := by
  simp [State.resetDrive]

@[simp] theorem State.resetDrive_pending :
    (s.resetDrive).pending = s.pending := by
  simp [State.resetDrive]

@[simp] theorem State.resetDrive_draws :
    (s.resetDrive).draws = s.draws := by
  simp [State.resetDrive]

@[simp] theorem State.resetDrive_memory :
    (s.resetDrive).memory = s.memory := by
  simp [State.resetDrive]

@[simp] theorem State.resetDrive_loader :
    (s.resetDrive).loader = s.loader := by
  simp [State.resetDrive]

@[simp] theorem State.resetDrive_topics :
    (s.resetDrive).topics = s.topics := by
  simp [State.resetDrive]

@[simp] theorem State.resetDrive_selector :
    (s.resetDrive).selector = s.selector := by
  simp [State.resetDrive]

@[simp] theorem State.resetDrive_estimator :
    (s.resetDrive).estimator = s.estimator := by
  simp [State.resetDrive]

@[simp] theorem State.resetDrive_grip :
    (s.resetDrive).grip = s.grip := by
  simp [State.resetDrive]

@[simp] theorem State.resetDrive_brake :
    (s.resetDrive).brake = s.brake := by
  simp [State.resetDrive]

@[simp] theorem State.resetDrive_generator :
    (s.resetDrive).generator = s.generator := by
  simp [State.resetDrive]

@[simp] theorem State.resetDrive_responder :
    (s.resetDrive).responder = s.responder := by
  simp [State.resetDrive]

@[simp] theorem State.resetBrake_now :
    (s.resetBrake).now = s.now := by
  simp [State.resetBrake]

@[simp] theorem State.resetBrake_pending :
    (s.resetBrake).pending = s.pending := by
  simp [State.resetBrake]

@[simp] theorem State.resetBrake_draws :
    (s.resetBrake).draws = s.draws := by
  simp [State.resetBrake]

@[simp] theorem State.resetBrake_memory :
    (s.resetBrake).memory = s.memory := by
  simp [State.resetBrake]

@[simp] theorem State.resetBrake_loader :
    (s.resetBrake).loader = s.loader := by
  simp [State.resetBrake]

@[simp] theorem State.resetBrake_topics :
    (s.resetBrake).topics = s.topics := by
  simp [State.resetBrake]

@[simp] theorem State.resetBrake_selector :
    (s.resetBrake).selector = s.selector := by
  simp [State.resetBrake]

@[simp] theorem State.resetBrake_estimator :
    (s.resetBrake).estimator = s.estimator := by
  simp [State.resetBrake]

@[simp] theorem State.resetBrake_grip :
    (s.resetBrake).grip = s.grip := by
  simp [State.resetBrake]

@[simp] theorem State.resetBrake_drive :
    (s.resetBrake).drive = s.drive := by
  simp [State.resetBrake]

@[simp] theorem State.resetBrake_generator :
    (s.resetBrake).generator = s.generator := by
  simp [State.resetBrake]

@[simp] theorem State.resetBrake_responder :
    (s.resetBrake).responder = s.responder := by
  simp [State.resetBrake]

@[simp] theorem State.resetPublisher_now :
    (s.resetPublisher).now = s.now := by
  simp [State.resetPublisher]

@[simp] theorem State.resetPublisher_pending :
    (s.resetPublisher).pending = s.pending := by
  simp [State.resetPublisher]

@[simp] theorem State.resetPublisher_draws :
    (s.resetPublisher).draws = s.draws := by
  simp [State.resetPublisher]

@[simp] theorem State.resetPublisher_memory :
    (s.resetPublisher).memory = s.memory := by
  simp [State.resetPublisher]

@[simp] theorem State.resetPublisher_loader :
    (s.resetPublisher).loader = s.loader := by
  simp [State.resetPublisher]

@[simp] theorem State.resetPublisher_topics :
    (s.resetPublisher).topics = s.topics := by
  simp [State.resetPublisher]

@[simp] theorem State.resetPublisher_selector :
    (s.resetPublisher).selector = s.selector := by
  simp [State.resetPublisher]

@[simp] theorem State.resetPublisher_estimator :
    (s.resetPublisher).estimator = s.estimator := by
  simp [State.resetPublisher]

@[simp] theorem State.resetPublisher_grip :
    (s.resetPublisher).grip = s.grip := by
  simp [State.resetPublisher]

@[simp] theorem State.resetPublisher_drive :
    (s.resetPublisher).drive = s.drive := by
  simp [State.resetPublisher]

@[simp] theorem State.resetPublisher_brake :
    (s.resetPublisher).brake = s.brake := by
  simp [State.resetPublisher]

@[simp] theorem State.resetPublisher_responder :
    (s.resetPublisher).responder = s.responder := by
  simp [State.resetPublisher]

@[simp] theorem State.chassisReset_now :
    (s.chassisReset).now = s.now := by
  simp [State.chassisReset]

@[simp] theorem State.chassisReset_pending :
    (s.chassisReset).pending = s.pending := by
  simp [State.chassisReset]

@[simp] theorem State.chassisReset_draws :
    (s.chassisReset).draws = s.draws := by
  simp [State.chassisReset]

@[simp] theorem State.chassisReset_memory :
    (s.chassisReset).memory = s.memory := by
  simp [State.chassisReset]

@[simp] theorem State.chassisReset_loader :
    (s.chassisReset).loader = s.loader := by
  simp [State.chassisReset]

@[simp] theorem State.chassisReset_topics :
    (s.chassisReset).topics = s.topics := by
  simp [State.chassisReset]

@[simp] theorem State.chassisReset_selector :
    (s.chassisReset).selector = s.selector := by
  simp [State.chassisReset]

@[simp] theorem State.chassisReset_responder :
    (s.chassisReset).responder = s.responder := by
  simp [State.chassisReset]

/-! ### The Service Responder -/

@[simp] theorem State.offerReply_now (tag record offset : Byte) (st : ServiceStatus) (data : List Byte) :
    (s.offerReply tag record offset st data).now = s.now := by
  simp [State.offerReply]

@[simp] theorem State.offerReply_pending (tag record offset : Byte) (st : ServiceStatus) (data : List Byte) :
    (s.offerReply tag record offset st data).pending = s.pending := by
  simp [State.offerReply]

@[simp] theorem State.offerReply_draws (tag record offset : Byte) (st : ServiceStatus) (data : List Byte) :
    (s.offerReply tag record offset st data).draws = s.draws := by
  simp [State.offerReply]

@[simp] theorem State.offerReply_memory (tag record offset : Byte) (st : ServiceStatus) (data : List Byte) :
    (s.offerReply tag record offset st data).memory = s.memory := by
  simp [State.offerReply]

@[simp] theorem State.offerReply_loader (tag record offset : Byte) (st : ServiceStatus) (data : List Byte) :
    (s.offerReply tag record offset st data).loader = s.loader := by
  simp [State.offerReply]

@[simp] theorem State.offerReply_topics (tag record offset : Byte) (st : ServiceStatus) (data : List Byte) :
    (s.offerReply tag record offset st data).topics = s.topics := by
  simp [State.offerReply]

@[simp] theorem State.offerReply_selector (tag record offset : Byte) (st : ServiceStatus) (data : List Byte) :
    (s.offerReply tag record offset st data).selector = s.selector := by
  simp [State.offerReply]

@[simp] theorem State.offerReply_estimator (tag record offset : Byte) (st : ServiceStatus) (data : List Byte) :
    (s.offerReply tag record offset st data).estimator = s.estimator := by
  simp [State.offerReply]

@[simp] theorem State.offerReply_grip (tag record offset : Byte) (st : ServiceStatus) (data : List Byte) :
    (s.offerReply tag record offset st data).grip = s.grip := by
  simp [State.offerReply]

@[simp] theorem State.offerReply_drive (tag record offset : Byte) (st : ServiceStatus) (data : List Byte) :
    (s.offerReply tag record offset st data).drive = s.drive := by
  simp [State.offerReply]

@[simp] theorem State.offerReply_brake (tag record offset : Byte) (st : ServiceStatus) (data : List Byte) :
    (s.offerReply tag record offset st data).brake = s.brake := by
  simp [State.offerReply]

@[simp] theorem State.offerReply_generator (tag record offset : Byte) (st : ServiceStatus) (data : List Byte) :
    (s.offerReply tag record offset st data).generator = s.generator := by
  simp [State.offerReply]

@[simp] theorem State.offerReply_monitor (tag record offset : Byte) (st : ServiceStatus) (data : List Byte) :
    (s.offerReply tag record offset st data).monitor = s.monitor := by
  simp [State.offerReply]

@[simp] theorem State.answer_now (r : Request) (st : ServiceStatus) (data : List Byte) :
    (s.answer r st data).now = s.now := by
  simp [State.answer]

@[simp] theorem State.answer_pending (r : Request) (st : ServiceStatus) (data : List Byte) :
    (s.answer r st data).pending = s.pending := by
  simp [State.answer]

@[simp] theorem State.answer_draws (r : Request) (st : ServiceStatus) (data : List Byte) :
    (s.answer r st data).draws = s.draws := by
  simp [State.answer]

@[simp] theorem State.answer_memory (r : Request) (st : ServiceStatus) (data : List Byte) :
    (s.answer r st data).memory = s.memory := by
  simp [State.answer]

@[simp] theorem State.answer_loader (r : Request) (st : ServiceStatus) (data : List Byte) :
    (s.answer r st data).loader = s.loader := by
  simp [State.answer]

@[simp] theorem State.answer_topics (r : Request) (st : ServiceStatus) (data : List Byte) :
    (s.answer r st data).topics = s.topics := by
  simp [State.answer]

@[simp] theorem State.answer_selector (r : Request) (st : ServiceStatus) (data : List Byte) :
    (s.answer r st data).selector = s.selector := by
  simp [State.answer]

@[simp] theorem State.answer_estimator (r : Request) (st : ServiceStatus) (data : List Byte) :
    (s.answer r st data).estimator = s.estimator := by
  simp [State.answer]

@[simp] theorem State.answer_grip (r : Request) (st : ServiceStatus) (data : List Byte) :
    (s.answer r st data).grip = s.grip := by
  simp [State.answer]

@[simp] theorem State.answer_drive (r : Request) (st : ServiceStatus) (data : List Byte) :
    (s.answer r st data).drive = s.drive := by
  simp [State.answer]

@[simp] theorem State.answer_brake (r : Request) (st : ServiceStatus) (data : List Byte) :
    (s.answer r st data).brake = s.brake := by
  simp [State.answer]

@[simp] theorem State.answer_generator (r : Request) (st : ServiceStatus) (data : List Byte) :
    (s.answer r st data).generator = s.generator := by
  simp [State.answer]

@[simp] theorem State.answer_monitor (r : Request) (st : ServiceStatus) (data : List Byte) :
    (s.answer r st data).monitor = s.monitor := by
  simp [State.answer]

@[simp] theorem State.closeWindow_now :
    (s.closeWindow).now = s.now := by
  rfl

@[simp] theorem State.closeWindow_pending :
    (s.closeWindow).pending = s.pending := by
  rfl

@[simp] theorem State.closeWindow_draws :
    (s.closeWindow).draws = s.draws := by
  rfl

@[simp] theorem State.closeWindow_memory :
    (s.closeWindow).memory = s.memory := by
  rfl

@[simp] theorem State.closeWindow_loader :
    (s.closeWindow).loader = s.loader := by
  rfl

@[simp] theorem State.closeWindow_link :
    (s.closeWindow).link = s.link := by
  rfl

@[simp] theorem State.closeWindow_topics :
    (s.closeWindow).topics = s.topics := by
  rfl

@[simp] theorem State.closeWindow_selector :
    (s.closeWindow).selector = s.selector := by
  rfl

@[simp] theorem State.closeWindow_estimator :
    (s.closeWindow).estimator = s.estimator := by
  rfl

@[simp] theorem State.closeWindow_grip :
    (s.closeWindow).grip = s.grip := by
  rfl

@[simp] theorem State.closeWindow_drive :
    (s.closeWindow).drive = s.drive := by
  rfl

@[simp] theorem State.closeWindow_brake :
    (s.closeWindow).brake = s.brake := by
  rfl

@[simp] theorem State.closeWindow_publisher :
    (s.closeWindow).publisher = s.publisher := by
  rfl

@[simp] theorem State.closeWindow_generator :
    (s.closeWindow).generator = s.generator := by
  rfl

@[simp] theorem State.closeWindow_monitor :
    (s.closeWindow).monitor = s.monitor := by
  rfl

@[simp] theorem State.windowArrival_now :
    (s.windowArrival).now = s.now := by
  unfold State.windowArrival; split; split <;> simp; rfl

@[simp] theorem State.windowArrival_pending :
    (s.windowArrival).pending = s.pending := by
  unfold State.windowArrival; split; split <;> simp; rfl

@[simp] theorem State.windowArrival_draws :
    (s.windowArrival).draws = s.draws := by
  unfold State.windowArrival; split; split <;> simp; rfl

@[simp] theorem State.windowArrival_memory :
    (s.windowArrival).memory = s.memory := by
  unfold State.windowArrival; split; split <;> simp; rfl

@[simp] theorem State.windowArrival_loader :
    (s.windowArrival).loader = s.loader := by
  unfold State.windowArrival; split; split <;> simp; rfl

@[simp] theorem State.windowArrival_link :
    (s.windowArrival).link = s.link := by
  unfold State.windowArrival; split; split <;> simp; rfl

@[simp] theorem State.windowArrival_topics :
    (s.windowArrival).topics = s.topics := by
  unfold State.windowArrival; split; split <;> simp; rfl

@[simp] theorem State.windowArrival_selector :
    (s.windowArrival).selector = s.selector := by
  unfold State.windowArrival; split; split <;> simp; rfl

@[simp] theorem State.windowArrival_estimator :
    (s.windowArrival).estimator = s.estimator := by
  unfold State.windowArrival; split; split <;> simp; rfl

@[simp] theorem State.windowArrival_grip :
    (s.windowArrival).grip = s.grip := by
  unfold State.windowArrival; split; split <;> simp; rfl

@[simp] theorem State.windowArrival_drive :
    (s.windowArrival).drive = s.drive := by
  unfold State.windowArrival; split; split <;> simp; rfl

@[simp] theorem State.windowArrival_brake :
    (s.windowArrival).brake = s.brake := by
  unfold State.windowArrival; split; split <;> simp; rfl

@[simp] theorem State.windowArrival_publisher :
    (s.windowArrival).publisher = s.publisher := by
  unfold State.windowArrival; split; split <;> simp; rfl

@[simp] theorem State.windowArrival_generator :
    (s.windowArrival).generator = s.generator := by
  unfold State.windowArrival; split; split <;> simp; rfl

@[simp] theorem State.windowArrival_monitor :
    (s.windowArrival).monitor = s.monitor := by
  unfold State.windowArrival; split; split <;> simp; rfl

@[simp] theorem State.takeBurst_now (k : Nat) (m : Option (List Byte)) :
    (s.takeBurst k m).now = s.now := by
  rfl

@[simp] theorem State.takeBurst_pending (k : Nat) (m : Option (List Byte)) :
    (s.takeBurst k m).pending = s.pending := by
  rfl

@[simp] theorem State.takeBurst_draws (k : Nat) (m : Option (List Byte)) :
    (s.takeBurst k m).draws = s.draws := by
  rfl

@[simp] theorem State.takeBurst_memory (k : Nat) (m : Option (List Byte)) :
    (s.takeBurst k m).memory = s.memory := by
  rfl

@[simp] theorem State.takeBurst_link (k : Nat) (m : Option (List Byte)) :
    (s.takeBurst k m).link = s.link := by
  rfl

@[simp] theorem State.takeBurst_topics (k : Nat) (m : Option (List Byte)) :
    (s.takeBurst k m).topics = s.topics := by
  rfl

@[simp] theorem State.takeBurst_selector (k : Nat) (m : Option (List Byte)) :
    (s.takeBurst k m).selector = s.selector := by
  rfl

@[simp] theorem State.takeBurst_estimator (k : Nat) (m : Option (List Byte)) :
    (s.takeBurst k m).estimator = s.estimator := by
  rfl

@[simp] theorem State.takeBurst_grip (k : Nat) (m : Option (List Byte)) :
    (s.takeBurst k m).grip = s.grip := by
  rfl

@[simp] theorem State.takeBurst_drive (k : Nat) (m : Option (List Byte)) :
    (s.takeBurst k m).drive = s.drive := by
  rfl

@[simp] theorem State.takeBurst_brake (k : Nat) (m : Option (List Byte)) :
    (s.takeBurst k m).brake = s.brake := by
  rfl

@[simp] theorem State.takeBurst_publisher (k : Nat) (m : Option (List Byte)) :
    (s.takeBurst k m).publisher = s.publisher := by
  rfl

@[simp] theorem State.takeBurst_generator (k : Nat) (m : Option (List Byte)) :
    (s.takeBurst k m).generator = s.generator := by
  rfl

@[simp] theorem State.takeBurst_monitor (k : Nat) (m : Option (List Byte)) :
    (s.takeBurst k m).monitor = s.monitor := by
  rfl

@[simp] theorem State.takeBurst_responder (k : Nat) (m : Option (List Byte)) :
    (s.takeBurst k m).responder = s.responder := by
  rfl

@[simp] theorem State.setStage_now (st : Store) (g : StoreStage) :
    (s.setStage st g).now = s.now := by
  rfl

@[simp] theorem State.setStage_pending (st : Store) (g : StoreStage) :
    (s.setStage st g).pending = s.pending := by
  rfl

@[simp] theorem State.setStage_draws (st : Store) (g : StoreStage) :
    (s.setStage st g).draws = s.draws := by
  rfl

@[simp] theorem State.setStage_memory (st : Store) (g : StoreStage) :
    (s.setStage st g).memory = s.memory := by
  rfl

@[simp] theorem State.setStage_loader (st : Store) (g : StoreStage) :
    (s.setStage st g).loader = s.loader := by
  rfl

@[simp] theorem State.setStage_link (st : Store) (g : StoreStage) :
    (s.setStage st g).link = s.link := by
  rfl

@[simp] theorem State.setStage_topics (st : Store) (g : StoreStage) :
    (s.setStage st g).topics = s.topics := by
  rfl

@[simp] theorem State.setStage_selector (st : Store) (g : StoreStage) :
    (s.setStage st g).selector = s.selector := by
  rfl

@[simp] theorem State.setStage_estimator (st : Store) (g : StoreStage) :
    (s.setStage st g).estimator = s.estimator := by
  rfl

@[simp] theorem State.setStage_grip (st : Store) (g : StoreStage) :
    (s.setStage st g).grip = s.grip := by
  rfl

@[simp] theorem State.setStage_drive (st : Store) (g : StoreStage) :
    (s.setStage st g).drive = s.drive := by
  rfl

@[simp] theorem State.setStage_brake (st : Store) (g : StoreStage) :
    (s.setStage st g).brake = s.brake := by
  rfl

@[simp] theorem State.setStage_publisher (st : Store) (g : StoreStage) :
    (s.setStage st g).publisher = s.publisher := by
  rfl

@[simp] theorem State.setStage_generator (st : Store) (g : StoreStage) :
    (s.setStage st g).generator = s.generator := by
  rfl

@[simp] theorem State.setStage_monitor (st : Store) (g : StoreStage) :
    (s.setStage st g).monitor = s.monitor := by
  rfl

@[simp] theorem State.beginStore_now (r : Request) :
    (s.beginStore r).now = s.now := by
  rfl

@[simp] theorem State.beginStore_pending (r : Request) :
    (s.beginStore r).pending = s.pending := by
  rfl

@[simp] theorem State.beginStore_draws (r : Request) :
    (s.beginStore r).draws = s.draws := by
  rfl

@[simp] theorem State.beginStore_memory (r : Request) :
    (s.beginStore r).memory = s.memory := by
  rfl

@[simp] theorem State.beginStore_loader (r : Request) :
    (s.beginStore r).loader = s.loader := by
  rfl

@[simp] theorem State.beginStore_link (r : Request) :
    (s.beginStore r).link = s.link := by
  rfl

@[simp] theorem State.beginStore_topics (r : Request) :
    (s.beginStore r).topics = s.topics := by
  rfl

@[simp] theorem State.beginStore_selector (r : Request) :
    (s.beginStore r).selector = s.selector := by
  rfl

@[simp] theorem State.beginStore_estimator (r : Request) :
    (s.beginStore r).estimator = s.estimator := by
  rfl

@[simp] theorem State.beginStore_grip (r : Request) :
    (s.beginStore r).grip = s.grip := by
  rfl

@[simp] theorem State.beginStore_drive (r : Request) :
    (s.beginStore r).drive = s.drive := by
  rfl

@[simp] theorem State.beginStore_brake (r : Request) :
    (s.beginStore r).brake = s.brake := by
  rfl

@[simp] theorem State.beginStore_publisher (r : Request) :
    (s.beginStore r).publisher = s.publisher := by
  rfl

@[simp] theorem State.beginStore_generator (r : Request) :
    (s.beginStore r).generator = s.generator := by
  rfl

@[simp] theorem State.beginStore_monitor (r : Request) :
    (s.beginStore r).monitor = s.monitor := by
  rfl

@[simp] theorem State.spoilPage_now (p : Nat) :
    (s.spoilPage p).now = s.now := by
  simp [State.spoilPage]

@[simp] theorem State.spoilPage_pending (p : Nat) :
    (s.spoilPage p).pending = s.pending := by
  simp [State.spoilPage]

@[simp] theorem State.spoilPage_loader (p : Nat) :
    (s.spoilPage p).loader = s.loader := by
  simp [State.spoilPage]

@[simp] theorem State.spoilPage_link (p : Nat) :
    (s.spoilPage p).link = s.link := by
  simp [State.spoilPage]

@[simp] theorem State.spoilPage_topics (p : Nat) :
    (s.spoilPage p).topics = s.topics := by
  simp [State.spoilPage]

@[simp] theorem State.spoilPage_selector (p : Nat) :
    (s.spoilPage p).selector = s.selector := by
  simp [State.spoilPage]

@[simp] theorem State.spoilPage_estimator (p : Nat) :
    (s.spoilPage p).estimator = s.estimator := by
  simp [State.spoilPage]

@[simp] theorem State.spoilPage_grip (p : Nat) :
    (s.spoilPage p).grip = s.grip := by
  simp [State.spoilPage]

@[simp] theorem State.spoilPage_drive (p : Nat) :
    (s.spoilPage p).drive = s.drive := by
  simp [State.spoilPage]

@[simp] theorem State.spoilPage_brake (p : Nat) :
    (s.spoilPage p).brake = s.brake := by
  simp [State.spoilPage]

@[simp] theorem State.spoilPage_publisher (p : Nat) :
    (s.spoilPage p).publisher = s.publisher := by
  simp [State.spoilPage]

@[simp] theorem State.spoilPage_generator (p : Nat) :
    (s.spoilPage p).generator = s.generator := by
  simp [State.spoilPage]

@[simp] theorem State.spoilPage_monitor (p : Nat) :
    (s.spoilPage p).monitor = s.monitor := by
  simp [State.spoilPage]

@[simp] theorem State.spoilPage_responder (p : Nat) :
    (s.spoilPage p).responder = s.responder := by
  simp [State.spoilPage]

@[simp] theorem State.finishStore_now (st : Store) (b : Bool) :
    (s.finishStore st b).now = s.now := by
  simp [State.finishStore]

@[simp] theorem State.finishStore_pending (st : Store) (b : Bool) :
    (s.finishStore st b).pending = s.pending := by
  simp [State.finishStore]

@[simp] theorem State.finishStore_draws (st : Store) (b : Bool) :
    (s.finishStore st b).draws = s.draws := by
  simp [State.finishStore]

@[simp] theorem State.finishStore_memory (st : Store) (b : Bool) :
    (s.finishStore st b).memory = s.memory := by
  simp [State.finishStore]

@[simp] theorem State.finishStore_loader (st : Store) (b : Bool) :
    (s.finishStore st b).loader = s.loader := by
  simp [State.finishStore]

@[simp] theorem State.finishStore_topics (st : Store) (b : Bool) :
    (s.finishStore st b).topics = s.topics := by
  simp [State.finishStore]

@[simp] theorem State.finishStore_selector (st : Store) (b : Bool) :
    (s.finishStore st b).selector = s.selector := by
  simp [State.finishStore]

@[simp] theorem State.finishStore_estimator (st : Store) (b : Bool) :
    (s.finishStore st b).estimator = s.estimator := by
  simp [State.finishStore]

@[simp] theorem State.finishStore_grip (st : Store) (b : Bool) :
    (s.finishStore st b).grip = s.grip := by
  simp [State.finishStore]

@[simp] theorem State.finishStore_drive (st : Store) (b : Bool) :
    (s.finishStore st b).drive = s.drive := by
  simp [State.finishStore]

@[simp] theorem State.finishStore_brake (st : Store) (b : Bool) :
    (s.finishStore st b).brake = s.brake := by
  simp [State.finishStore]

@[simp] theorem State.finishStore_generator (st : Store) (b : Bool) :
    (s.finishStore st b).generator = s.generator := by
  simp [State.finishStore]

@[simp] theorem State.serveRead_now (r : Request) :
    (s.serveRead r).now = s.now := by
  unfold State.serveRead; split; · simp
  · split <;> simp

@[simp] theorem State.serveRead_pending (r : Request) :
    (s.serveRead r).pending = s.pending := by
  unfold State.serveRead; split; · simp
  · split <;> simp

@[simp] theorem State.serveRead_draws (r : Request) :
    (s.serveRead r).draws = s.draws := by
  unfold State.serveRead; split; · simp
  · split <;> simp

@[simp] theorem State.serveRead_memory (r : Request) :
    (s.serveRead r).memory = s.memory := by
  unfold State.serveRead; split; · simp
  · split <;> simp

@[simp] theorem State.serveRead_loader (r : Request) :
    (s.serveRead r).loader = s.loader := by
  unfold State.serveRead; split; · simp
  · split <;> simp

@[simp] theorem State.serveRead_topics (r : Request) :
    (s.serveRead r).topics = s.topics := by
  unfold State.serveRead; split; · simp
  · split <;> simp

@[simp] theorem State.serveRead_selector (r : Request) :
    (s.serveRead r).selector = s.selector := by
  unfold State.serveRead; split; · simp
  · split <;> simp

@[simp] theorem State.serveRead_estimator (r : Request) :
    (s.serveRead r).estimator = s.estimator := by
  unfold State.serveRead; split; · simp
  · split <;> simp

@[simp] theorem State.serveRead_grip (r : Request) :
    (s.serveRead r).grip = s.grip := by
  unfold State.serveRead; split; · simp
  · split <;> simp

@[simp] theorem State.serveRead_drive (r : Request) :
    (s.serveRead r).drive = s.drive := by
  unfold State.serveRead; split; · simp
  · split <;> simp

@[simp] theorem State.serveRead_brake (r : Request) :
    (s.serveRead r).brake = s.brake := by
  unfold State.serveRead; split; · simp
  · split <;> simp

@[simp] theorem State.serveRead_generator (r : Request) :
    (s.serveRead r).generator = s.generator := by
  unfold State.serveRead; split; · simp
  · split <;> simp

@[simp] theorem State.serveRead_monitor (r : Request) :
    (s.serveRead r).monitor = s.monitor := by
  unfold State.serveRead; split; · simp
  · split <;> simp

@[simp] theorem State.serveWrite_now (r : Request) :
    (s.serveWrite r).now = s.now := by
  unfold State.serveWrite; dsimp only; repeat' split
  all_goals simp

@[simp] theorem State.serveWrite_pending (r : Request) :
    (s.serveWrite r).pending = s.pending := by
  unfold State.serveWrite; dsimp only; repeat' split
  all_goals simp

@[simp] theorem State.serveWrite_draws (r : Request) :
    (s.serveWrite r).draws = s.draws := by
  unfold State.serveWrite; dsimp only; repeat' split
  all_goals simp

@[simp] theorem State.serveWrite_memory (r : Request) :
    (s.serveWrite r).memory = s.memory := by
  unfold State.serveWrite; dsimp only; repeat' split
  all_goals simp

@[simp] theorem State.serveWrite_loader (r : Request) :
    (s.serveWrite r).loader = s.loader := by
  unfold State.serveWrite; dsimp only; repeat' split
  all_goals simp

@[simp] theorem State.serveWrite_topics (r : Request) :
    (s.serveWrite r).topics = s.topics := by
  unfold State.serveWrite; dsimp only; repeat' split
  all_goals simp

@[simp] theorem State.serveWrite_selector (r : Request) :
    (s.serveWrite r).selector = s.selector := by
  unfold State.serveWrite; dsimp only; repeat' split
  all_goals simp

@[simp] theorem State.serveWrite_estimator (r : Request) :
    (s.serveWrite r).estimator = s.estimator := by
  unfold State.serveWrite; dsimp only; repeat' split
  all_goals simp

@[simp] theorem State.serveWrite_grip (r : Request) :
    (s.serveWrite r).grip = s.grip := by
  unfold State.serveWrite; dsimp only; repeat' split
  all_goals simp

@[simp] theorem State.serveWrite_drive (r : Request) :
    (s.serveWrite r).drive = s.drive := by
  unfold State.serveWrite; dsimp only; repeat' split
  all_goals simp

@[simp] theorem State.serveWrite_brake (r : Request) :
    (s.serveWrite r).brake = s.brake := by
  unfold State.serveWrite; dsimp only; repeat' split
  all_goals simp

@[simp] theorem State.serveWrite_generator (r : Request) :
    (s.serveWrite r).generator = s.generator := by
  unfold State.serveWrite; dsimp only; repeat' split
  all_goals simp

@[simp] theorem State.serveWrite_monitor (r : Request) :
    (s.serveWrite r).monitor = s.monitor := by
  unfold State.serveWrite; dsimp only; repeat' split
  all_goals simp

@[simp] theorem State.serveStore_now (r : Request) :
    (s.serveStore r).now = s.now := by
  unfold State.serveStore; split <;> simp

@[simp] theorem State.serveStore_pending (r : Request) :
    (s.serveStore r).pending = s.pending := by
  unfold State.serveStore; split <;> simp

@[simp] theorem State.serveStore_draws (r : Request) :
    (s.serveStore r).draws = s.draws := by
  unfold State.serveStore; split <;> simp

@[simp] theorem State.serveStore_memory (r : Request) :
    (s.serveStore r).memory = s.memory := by
  unfold State.serveStore; split <;> simp

@[simp] theorem State.serveStore_loader (r : Request) :
    (s.serveStore r).loader = s.loader := by
  unfold State.serveStore; split <;> simp

@[simp] theorem State.serveStore_topics (r : Request) :
    (s.serveStore r).topics = s.topics := by
  unfold State.serveStore; split <;> simp

@[simp] theorem State.serveStore_selector (r : Request) :
    (s.serveStore r).selector = s.selector := by
  unfold State.serveStore; split <;> simp

@[simp] theorem State.serveStore_estimator (r : Request) :
    (s.serveStore r).estimator = s.estimator := by
  unfold State.serveStore; split <;> simp

@[simp] theorem State.serveStore_grip (r : Request) :
    (s.serveStore r).grip = s.grip := by
  unfold State.serveStore; split <;> simp

@[simp] theorem State.serveStore_drive (r : Request) :
    (s.serveStore r).drive = s.drive := by
  unfold State.serveStore; split <;> simp

@[simp] theorem State.serveStore_brake (r : Request) :
    (s.serveStore r).brake = s.brake := by
  unfold State.serveStore; split <;> simp

@[simp] theorem State.serveStore_generator (r : Request) :
    (s.serveStore r).generator = s.generator := by
  unfold State.serveStore; split <;> simp

@[simp] theorem State.serveStore_monitor (r : Request) :
    (s.serveStore r).monitor = s.monitor := by
  unfold State.serveStore; split <;> simp

@[simp] theorem State.serveClear_now (r : Request) :
    (s.serveClear r).now = s.now := by
  simp [State.serveClear]

@[simp] theorem State.serveClear_pending (r : Request) :
    (s.serveClear r).pending = s.pending := by
  simp [State.serveClear]

@[simp] theorem State.serveClear_draws (r : Request) :
    (s.serveClear r).draws = s.draws := by
  simp [State.serveClear]

@[simp] theorem State.serveClear_memory (r : Request) :
    (s.serveClear r).memory = s.memory := by
  simp [State.serveClear]

@[simp] theorem State.serveClear_loader (r : Request) :
    (s.serveClear r).loader = s.loader := by
  simp [State.serveClear]

@[simp] theorem State.serveClear_topics (r : Request) :
    (s.serveClear r).topics = s.topics := by
  simp [State.serveClear]

@[simp] theorem State.serveClear_selector (r : Request) :
    (s.serveClear r).selector = s.selector := by
  simp [State.serveClear]

@[simp] theorem State.serveClear_estimator (r : Request) :
    (s.serveClear r).estimator = s.estimator := by
  simp [State.serveClear]

@[simp] theorem State.serveClear_grip (r : Request) :
    (s.serveClear r).grip = s.grip := by
  simp [State.serveClear]

@[simp] theorem State.serveClear_drive (r : Request) :
    (s.serveClear r).drive = s.drive := by
  simp [State.serveClear]

@[simp] theorem State.serveClear_brake (r : Request) :
    (s.serveClear r).brake = s.brake := by
  simp [State.serveClear]

@[simp] theorem State.serveClear_generator (r : Request) :
    (s.serveClear r).generator = s.generator := by
  simp [State.serveClear]

@[simp] theorem State.serveTest_now (r : Request) :
    (s.serveTest r).now = s.now := by
  unfold State.serveTest; split <;> simp

@[simp] theorem State.serveTest_pending (r : Request) :
    (s.serveTest r).pending = s.pending := by
  unfold State.serveTest; split <;> simp

@[simp] theorem State.serveTest_draws (r : Request) :
    (s.serveTest r).draws = s.draws := by
  unfold State.serveTest; split <;> simp

@[simp] theorem State.serveTest_memory (r : Request) :
    (s.serveTest r).memory = s.memory := by
  unfold State.serveTest; split <;> simp

@[simp] theorem State.serveTest_loader (r : Request) :
    (s.serveTest r).loader = s.loader := by
  unfold State.serveTest; split <;> simp

@[simp] theorem State.serveTest_topics (r : Request) :
    (s.serveTest r).topics = s.topics := by
  unfold State.serveTest; split <;> simp

@[simp] theorem State.serveTest_selector (r : Request) :
    (s.serveTest r).selector = s.selector := by
  unfold State.serveTest; split <;> simp

@[simp] theorem State.serveTest_estimator (r : Request) :
    (s.serveTest r).estimator = s.estimator := by
  unfold State.serveTest; split <;> simp

@[simp] theorem State.serveTest_grip (r : Request) :
    (s.serveTest r).grip = s.grip := by
  unfold State.serveTest; split <;> simp

@[simp] theorem State.serveTest_drive (r : Request) :
    (s.serveTest r).drive = s.drive := by
  unfold State.serveTest; split <;> simp

@[simp] theorem State.serveTest_brake (r : Request) :
    (s.serveTest r).brake = s.brake := by
  unfold State.serveTest; split <;> simp

@[simp] theorem State.serveTest_monitor (r : Request) :
    (s.serveTest r).monitor = s.monitor := by
  unfold State.serveTest; split <;> simp

@[simp] theorem State.serve_now (p : List Byte) :
    (s.serve p).now = s.now := by
  unfold State.serve State.judgeRequest State.serveKind; dsimp only; repeat' split
  all_goals simp

@[simp] theorem State.serve_pending (p : List Byte) :
    (s.serve p).pending = s.pending := by
  unfold State.serve State.judgeRequest State.serveKind; dsimp only; repeat' split
  all_goals simp

@[simp] theorem State.serve_draws (p : List Byte) :
    (s.serve p).draws = s.draws := by
  unfold State.serve State.judgeRequest State.serveKind; dsimp only; repeat' split
  all_goals simp

@[simp] theorem State.serve_memory (p : List Byte) :
    (s.serve p).memory = s.memory := by
  unfold State.serve State.judgeRequest State.serveKind; dsimp only; repeat' split
  all_goals simp

@[simp] theorem State.serve_loader (p : List Byte) :
    (s.serve p).loader = s.loader := by
  unfold State.serve State.judgeRequest State.serveKind; dsimp only; repeat' split
  all_goals simp

@[simp] theorem State.serve_topics (p : List Byte) :
    (s.serve p).topics = s.topics := by
  unfold State.serve State.judgeRequest State.serveKind; dsimp only; repeat' split
  all_goals simp

@[simp] theorem State.serve_selector (p : List Byte) :
    (s.serve p).selector = s.selector := by
  unfold State.serve State.judgeRequest State.serveKind; dsimp only; repeat' split
  all_goals simp

@[simp] theorem State.serve_estimator (p : List Byte) :
    (s.serve p).estimator = s.estimator := by
  unfold State.serve State.judgeRequest State.serveKind; dsimp only; repeat' split
  all_goals simp

@[simp] theorem State.serve_grip (p : List Byte) :
    (s.serve p).grip = s.grip := by
  unfold State.serve State.judgeRequest State.serveKind; dsimp only; repeat' split
  all_goals simp

@[simp] theorem State.serve_drive (p : List Byte) :
    (s.serve p).drive = s.drive := by
  unfold State.serve State.judgeRequest State.serveKind; dsimp only; repeat' split
  all_goals simp

@[simp] theorem State.serve_brake (p : List Byte) :
    (s.serve p).brake = s.brake := by
  unfold State.serve State.judgeRequest State.serveKind; dsimp only; repeat' split
  all_goals simp

/-! ### The Topic Store -/

@[simp] theorem State.setEntry_now (e : EntryName) (x : Entry) :
    (s.setEntry e x).now = s.now := by
  rfl

@[simp] theorem State.setEntry_pending (e : EntryName) (x : Entry) :
    (s.setEntry e x).pending = s.pending := by
  rfl

@[simp] theorem State.setEntry_draws (e : EntryName) (x : Entry) :
    (s.setEntry e x).draws = s.draws := by
  rfl

@[simp] theorem State.setEntry_memory (e : EntryName) (x : Entry) :
    (s.setEntry e x).memory = s.memory := by
  rfl

@[simp] theorem State.setEntry_loader (e : EntryName) (x : Entry) :
    (s.setEntry e x).loader = s.loader := by
  rfl

@[simp] theorem State.setEntry_link (e : EntryName) (x : Entry) :
    (s.setEntry e x).link = s.link := by
  rfl

@[simp] theorem State.setEntry_selector (e : EntryName) (x : Entry) :
    (s.setEntry e x).selector = s.selector := by
  rfl

@[simp] theorem State.setEntry_estimator (e : EntryName) (x : Entry) :
    (s.setEntry e x).estimator = s.estimator := by
  rfl

@[simp] theorem State.setEntry_grip (e : EntryName) (x : Entry) :
    (s.setEntry e x).grip = s.grip := by
  rfl

@[simp] theorem State.setEntry_drive (e : EntryName) (x : Entry) :
    (s.setEntry e x).drive = s.drive := by
  rfl

@[simp] theorem State.setEntry_brake (e : EntryName) (x : Entry) :
    (s.setEntry e x).brake = s.brake := by
  rfl

@[simp] theorem State.setEntry_publisher (e : EntryName) (x : Entry) :
    (s.setEntry e x).publisher = s.publisher := by
  rfl

@[simp] theorem State.setEntry_generator (e : EntryName) (x : Entry) :
    (s.setEntry e x).generator = s.generator := by
  rfl

@[simp] theorem State.setEntry_monitor (e : EntryName) (x : Entry) :
    (s.setEntry e x).monitor = s.monitor := by
  rfl

@[simp] theorem State.setEntry_responder (e : EntryName) (x : Entry) :
    (s.setEntry e x).responder = s.responder := by
  rfl

@[simp] theorem State.noticeAccepted_now (e : EntryName) (x : Entry) :
    (s.noticeAccepted e x).now = s.now := by
  unfold State.noticeAccepted; dsimp only; repeat' split
  all_goals simp

@[simp] theorem State.noticeAccepted_pending (e : EntryName) (x : Entry) :
    (s.noticeAccepted e x).pending = s.pending := by
  unfold State.noticeAccepted; dsimp only; repeat' split
  all_goals simp

@[simp] theorem State.noticeAccepted_draws (e : EntryName) (x : Entry) :
    (s.noticeAccepted e x).draws = s.draws := by
  unfold State.noticeAccepted; dsimp only; repeat' split
  all_goals simp

@[simp] theorem State.noticeAccepted_memory (e : EntryName) (x : Entry) :
    (s.noticeAccepted e x).memory = s.memory := by
  unfold State.noticeAccepted; dsimp only; repeat' split
  all_goals simp

@[simp] theorem State.noticeAccepted_loader (e : EntryName) (x : Entry) :
    (s.noticeAccepted e x).loader = s.loader := by
  unfold State.noticeAccepted; dsimp only; repeat' split
  all_goals simp

@[simp] theorem State.noticeAccepted_topics (e : EntryName) (x : Entry) :
    (s.noticeAccepted e x).topics = s.topics := by
  unfold State.noticeAccepted; dsimp only; repeat' split
  all_goals simp

@[simp] theorem State.noticeAccepted_selector (e : EntryName) (x : Entry) :
    (s.noticeAccepted e x).selector = s.selector := by
  unfold State.noticeAccepted; dsimp only; repeat' split
  all_goals simp

@[simp] theorem State.noticeAccepted_estimator (e : EntryName) (x : Entry) :
    (s.noticeAccepted e x).estimator = s.estimator := by
  unfold State.noticeAccepted; dsimp only; repeat' split
  all_goals simp

@[simp] theorem State.noticeAccepted_grip (e : EntryName) (x : Entry) :
    (s.noticeAccepted e x).grip = s.grip := by
  unfold State.noticeAccepted; dsimp only; repeat' split
  all_goals simp

@[simp] theorem State.noticeAccepted_drive (e : EntryName) (x : Entry) :
    (s.noticeAccepted e x).drive = s.drive := by
  unfold State.noticeAccepted; dsimp only; repeat' split
  all_goals simp

@[simp] theorem State.noticeAccepted_brake (e : EntryName) (x : Entry) :
    (s.noticeAccepted e x).brake = s.brake := by
  unfold State.noticeAccepted; dsimp only; repeat' split
  all_goals simp

@[simp] theorem State.noticeAccepted_generator (e : EntryName) (x : Entry) :
    (s.noticeAccepted e x).generator = s.generator := by
  unfold State.noticeAccepted; dsimp only; repeat' split
  all_goals simp

@[simp] theorem State.noticeAccepted_responder (e : EntryName) (x : Entry) :
    (s.noticeAccepted e x).responder = s.responder := by
  unfold State.noticeAccepted; dsimp only; repeat' split
  all_goals simp

@[simp] theorem State.announce_now (e : EntryName) :
    (s.announce e).now = s.now := by
  cases e <;> simp [State.announce]

@[simp] theorem State.announce_pending (e : EntryName) :
    (s.announce e).pending = s.pending := by
  cases e <;> simp [State.announce]

@[simp] theorem State.announce_draws (e : EntryName) :
    (s.announce e).draws = s.draws := by
  cases e <;> simp [State.announce]

@[simp] theorem State.announce_memory (e : EntryName) :
    (s.announce e).memory = s.memory := by
  cases e <;> simp [State.announce]

@[simp] theorem State.announce_loader (e : EntryName) :
    (s.announce e).loader = s.loader := by
  cases e <;> simp [State.announce]

@[simp] theorem State.announce_topics (e : EntryName) :
    (s.announce e).topics = s.topics := by
  cases e <;> simp [State.announce]

@[simp] theorem State.announce_drive (e : EntryName) :
    (s.announce e).drive = s.drive := by
  cases e <;> simp [State.announce]

@[simp] theorem State.announce_generator (e : EntryName) :
    (s.announce e).generator = s.generator := by
  cases e <;> simp [State.announce]

@[simp] theorem State.acceptFrame_now (e : EntryName) (f : Frame) :
    (s.acceptFrame e f).now = s.now := by
  simp [State.acceptFrame]

@[simp] theorem State.acceptFrame_pending (e : EntryName) (f : Frame) :
    (s.acceptFrame e f).pending = s.pending := by
  simp [State.acceptFrame]

@[simp] theorem State.acceptFrame_draws (e : EntryName) (f : Frame) :
    (s.acceptFrame e f).draws = s.draws := by
  simp [State.acceptFrame]

@[simp] theorem State.acceptFrame_memory (e : EntryName) (f : Frame) :
    (s.acceptFrame e f).memory = s.memory := by
  simp [State.acceptFrame]

@[simp] theorem State.acceptFrame_loader (e : EntryName) (f : Frame) :
    (s.acceptFrame e f).loader = s.loader := by
  simp [State.acceptFrame]

@[simp] theorem State.acceptFrame_drive (e : EntryName) (f : Frame) :
    (s.acceptFrame e f).drive = s.drive := by
  simp [State.acceptFrame]

@[simp] theorem State.acceptFrame_generator (e : EntryName) (f : Frame) :
    (s.acceptFrame e f).generator = s.generator := by
  simp [State.acceptFrame]

@[simp] theorem State.discardIntruder_now (e : EntryName) :
    (s.discardIntruder e).now = s.now := by
  unfold State.discardIntruder; dsimp only; split <;> simp

@[simp] theorem State.discardIntruder_pending (e : EntryName) :
    (s.discardIntruder e).pending = s.pending := by
  unfold State.discardIntruder; dsimp only; split <;> simp

@[simp] theorem State.discardIntruder_draws (e : EntryName) :
    (s.discardIntruder e).draws = s.draws := by
  unfold State.discardIntruder; dsimp only; split <;> simp

@[simp] theorem State.discardIntruder_memory (e : EntryName) :
    (s.discardIntruder e).memory = s.memory := by
  unfold State.discardIntruder; dsimp only; split <;> simp

@[simp] theorem State.discardIntruder_loader (e : EntryName) :
    (s.discardIntruder e).loader = s.loader := by
  unfold State.discardIntruder; dsimp only; split <;> simp

@[simp] theorem State.discardIntruder_selector (e : EntryName) :
    (s.discardIntruder e).selector = s.selector := by
  unfold State.discardIntruder; dsimp only; split <;> simp

@[simp] theorem State.discardIntruder_estimator (e : EntryName) :
    (s.discardIntruder e).estimator = s.estimator := by
  unfold State.discardIntruder; dsimp only; split <;> simp

@[simp] theorem State.discardIntruder_grip (e : EntryName) :
    (s.discardIntruder e).grip = s.grip := by
  unfold State.discardIntruder; dsimp only; split <;> simp

@[simp] theorem State.discardIntruder_drive (e : EntryName) :
    (s.discardIntruder e).drive = s.drive := by
  unfold State.discardIntruder; dsimp only; split <;> simp

@[simp] theorem State.discardIntruder_brake (e : EntryName) :
    (s.discardIntruder e).brake = s.brake := by
  unfold State.discardIntruder; dsimp only; split <;> simp

@[simp] theorem State.discardIntruder_generator (e : EntryName) :
    (s.discardIntruder e).generator = s.generator := by
  unfold State.discardIntruder; dsimp only; split <;> simp

@[simp] theorem State.discardIntruder_responder (e : EntryName) :
    (s.discardIntruder e).responder = s.responder := by
  unfold State.discardIntruder; dsimp only; split <;> simp

@[simp] theorem State.offerEntry_now (e : EntryName) (f : Frame) :
    (s.offerEntry e f).now = s.now := by
  unfold State.offerEntry; dsimp only; split <;> simp

@[simp] theorem State.offerEntry_pending (e : EntryName) (f : Frame) :
    (s.offerEntry e f).pending = s.pending := by
  unfold State.offerEntry; dsimp only; split <;> simp

@[simp] theorem State.offerEntry_draws (e : EntryName) (f : Frame) :
    (s.offerEntry e f).draws = s.draws := by
  unfold State.offerEntry; dsimp only; split <;> simp

@[simp] theorem State.offerEntry_memory (e : EntryName) (f : Frame) :
    (s.offerEntry e f).memory = s.memory := by
  unfold State.offerEntry; dsimp only; split <;> simp

@[simp] theorem State.offerEntry_loader (e : EntryName) (f : Frame) :
    (s.offerEntry e f).loader = s.loader := by
  unfold State.offerEntry; dsimp only; split <;> simp

@[simp] theorem State.offerEntry_drive (e : EntryName) (f : Frame) :
    (s.offerEntry e f).drive = s.drive := by
  unfold State.offerEntry; dsimp only; split <;> simp

@[simp] theorem State.offerEntry_generator (e : EntryName) (f : Frame) :
    (s.offerEntry e f).generator = s.generator := by
  unfold State.offerEntry; dsimp only; split <;> simp

@[simp] theorem State.staleNotice_now (e : EntryName) :
    (s.staleNotice e).now = s.now := by
  cases e <;> simp [State.staleNotice]

@[simp] theorem State.staleNotice_pending (e : EntryName) :
    (s.staleNotice e).pending = s.pending := by
  cases e <;> simp [State.staleNotice]

@[simp] theorem State.staleNotice_draws (e : EntryName) :
    (s.staleNotice e).draws = s.draws := by
  cases e <;> simp [State.staleNotice]

@[simp] theorem State.staleNotice_memory (e : EntryName) :
    (s.staleNotice e).memory = s.memory := by
  cases e <;> simp [State.staleNotice]

@[simp] theorem State.staleNotice_loader (e : EntryName) :
    (s.staleNotice e).loader = s.loader := by
  cases e <;> simp [State.staleNotice]

@[simp] theorem State.staleNotice_topics (e : EntryName) :
    (s.staleNotice e).topics = s.topics := by
  cases e <;> simp [State.staleNotice]

@[simp] theorem State.staleNotice_drive (e : EntryName) :
    (s.staleNotice e).drive = s.drive := by
  cases e <;> simp [State.staleNotice]

@[simp] theorem State.staleNotice_brake (e : EntryName) :
    (s.staleNotice e).brake = s.brake := by
  cases e <;> simp [State.staleNotice]

@[simp] theorem State.staleNotice_generator (e : EntryName) :
    (s.staleNotice e).generator = s.generator := by
  cases e <;> simp [State.staleNotice]

@[simp] theorem State.staleNotice_responder (e : EntryName) :
    (s.staleNotice e).responder = s.responder := by
  cases e <;> simp [State.staleNotice]

@[simp] theorem State.resetMessage_now (f : Frame) :
    (s.resetMessage f).now = s.now := by
  unfold State.resetMessage; split <;> simp

@[simp] theorem State.resetMessage_pending (f : Frame) :
    (s.resetMessage f).pending = s.pending := by
  unfold State.resetMessage; split <;> simp

@[simp] theorem State.resetMessage_draws (f : Frame) :
    (s.resetMessage f).draws = s.draws := by
  unfold State.resetMessage; split <;> simp

@[simp] theorem State.resetMessage_memory (f : Frame) :
    (s.resetMessage f).memory = s.memory := by
  unfold State.resetMessage; split <;> simp

@[simp] theorem State.resetMessage_loader (f : Frame) :
    (s.resetMessage f).loader = s.loader := by
  unfold State.resetMessage; split <;> simp

@[simp] theorem State.resetMessage_selector (f : Frame) :
    (s.resetMessage f).selector = s.selector := by
  unfold State.resetMessage; split <;> simp

@[simp] theorem State.resetMessage_responder (f : Frame) :
    (s.resetMessage f).responder = s.responder := by
  unfold State.resetMessage; split <;> simp

@[simp] theorem State.offerEntries_now (f : Frame) (l : List EntryName) :
    (State.offerEntries s f l).now = s.now := by
  induction l generalizing s with
  | nil => rfl
  | cons e rest ih => simp [State.offerEntries, ih]

@[simp] theorem State.offerEntries_pending (f : Frame) (l : List EntryName) :
    (State.offerEntries s f l).pending = s.pending := by
  induction l generalizing s with
  | nil => rfl
  | cons e rest ih => simp [State.offerEntries, ih]

@[simp] theorem State.offerEntries_draws (f : Frame) (l : List EntryName) :
    (State.offerEntries s f l).draws = s.draws := by
  induction l generalizing s with
  | nil => rfl
  | cons e rest ih => simp [State.offerEntries, ih]

@[simp] theorem State.offerEntries_memory (f : Frame) (l : List EntryName) :
    (State.offerEntries s f l).memory = s.memory := by
  induction l generalizing s with
  | nil => rfl
  | cons e rest ih => simp [State.offerEntries, ih]

@[simp] theorem State.offerEntries_loader (f : Frame) (l : List EntryName) :
    (State.offerEntries s f l).loader = s.loader := by
  induction l generalizing s with
  | nil => rfl
  | cons e rest ih => simp [State.offerEntries, ih]

@[simp] theorem State.offerEntries_drive (f : Frame) (l : List EntryName) :
    (State.offerEntries s f l).drive = s.drive := by
  induction l generalizing s with
  | nil => rfl
  | cons e rest ih => simp [State.offerEntries, ih]

@[simp] theorem State.offerEntries_generator (f : Frame) (l : List EntryName) :
    (State.offerEntries s f l).generator = s.generator := by
  induction l generalizing s with
  | nil => rfl
  | cons e rest ih => simp [State.offerEntries, ih]

@[simp] theorem State.handOver_now (f : Frame) :
    (s.handOver f).now = s.now := by
  unfold State.handOver; repeat' split
  all_goals simp

@[simp] theorem State.handOver_pending (f : Frame) :
    (s.handOver f).pending = s.pending := by
  unfold State.handOver; repeat' split
  all_goals simp

@[simp] theorem State.handOver_draws (f : Frame) :
    (s.handOver f).draws = s.draws := by
  unfold State.handOver; repeat' split
  all_goals simp

@[simp] theorem State.handOver_memory (f : Frame) :
    (s.handOver f).memory = s.memory := by
  unfold State.handOver; repeat' split
  all_goals simp

@[simp] theorem State.handOver_loader (f : Frame) :
    (s.handOver f).loader = s.loader := by
  unfold State.handOver; repeat' split
  all_goals simp

@[simp] theorem State.driveSlot_now (d : SlotDrive) :
    (s.driveSlot d).now = s.now := by
  rfl

@[simp] theorem State.driveSlot_pending (d : SlotDrive) :
    (s.driveSlot d).pending = s.pending := by
  rfl

@[simp] theorem State.driveSlot_draws (d : SlotDrive) :
    (s.driveSlot d).draws = s.draws := by
  rfl

@[simp] theorem State.driveSlot_memory (d : SlotDrive) :
    (s.driveSlot d).memory = s.memory := by
  rfl

@[simp] theorem State.driveSlot_loader (d : SlotDrive) :
    (s.driveSlot d).loader = s.loader := by
  rfl

@[simp] theorem State.driveSlot_topics (d : SlotDrive) :
    (s.driveSlot d).topics = s.topics := by
  rfl

@[simp] theorem State.driveSlot_selector (d : SlotDrive) :
    (s.driveSlot d).selector = s.selector := by
  rfl

@[simp] theorem State.driveSlot_estimator (d : SlotDrive) :
    (s.driveSlot d).estimator = s.estimator := by
  rfl

@[simp] theorem State.driveSlot_grip (d : SlotDrive) :
    (s.driveSlot d).grip = s.grip := by
  rfl

@[simp] theorem State.driveSlot_drive (d : SlotDrive) :
    (s.driveSlot d).drive = s.drive := by
  rfl

@[simp] theorem State.driveSlot_brake (d : SlotDrive) :
    (s.driveSlot d).brake = s.brake := by
  rfl

@[simp] theorem State.driveSlot_publisher (d : SlotDrive) :
    (s.driveSlot d).publisher = s.publisher := by
  rfl

@[simp] theorem State.driveSlot_generator (d : SlotDrive) :
    (s.driveSlot d).generator = s.generator := by
  rfl

@[simp] theorem State.driveSlot_monitor (d : SlotDrive) :
    (s.driveSlot d).monitor = s.monitor := by
  rfl

@[simp] theorem State.driveSlot_responder (d : SlotDrive) :
    (s.driveSlot d).responder = s.responder := by
  rfl

@[simp] theorem State.discardHeader_now :
    (s.discardHeader).now = s.now := by
  rfl

@[simp] theorem State.discardHeader_pending :
    (s.discardHeader).pending = s.pending := by
  rfl

@[simp] theorem State.discardHeader_draws :
    (s.discardHeader).draws = s.draws := by
  rfl

@[simp] theorem State.discardHeader_memory :
    (s.discardHeader).memory = s.memory := by
  rfl

@[simp] theorem State.discardHeader_loader :
    (s.discardHeader).loader = s.loader := by
  rfl

@[simp] theorem State.discardHeader_topics :
    (s.discardHeader).topics = s.topics := by
  rfl

@[simp] theorem State.discardHeader_selector :
    (s.discardHeader).selector = s.selector := by
  rfl

@[simp] theorem State.discardHeader_estimator :
    (s.discardHeader).estimator = s.estimator := by
  rfl

@[simp] theorem State.discardHeader_grip :
    (s.discardHeader).grip = s.grip := by
  rfl

@[simp] theorem State.discardHeader_drive :
    (s.discardHeader).drive = s.drive := by
  rfl

@[simp] theorem State.discardHeader_brake :
    (s.discardHeader).brake = s.brake := by
  rfl

@[simp] theorem State.discardHeader_publisher :
    (s.discardHeader).publisher = s.publisher := by
  rfl

@[simp] theorem State.discardHeader_generator :
    (s.discardHeader).generator = s.generator := by
  rfl

@[simp] theorem State.discardHeader_monitor :
    (s.discardHeader).monitor = s.monitor := by
  rfl

@[simp] theorem State.discardHeader_responder :
    (s.discardHeader).responder = s.responder := by
  rfl

@[simp] theorem State.discardPayload_now :
    (s.discardPayload).now = s.now := by
  rfl

@[simp] theorem State.discardPayload_pending :
    (s.discardPayload).pending = s.pending := by
  rfl

@[simp] theorem State.discardPayload_draws :
    (s.discardPayload).draws = s.draws := by
  rfl

@[simp] theorem State.discardPayload_memory :
    (s.discardPayload).memory = s.memory := by
  rfl

@[simp] theorem State.discardPayload_loader :
    (s.discardPayload).loader = s.loader := by
  rfl

@[simp] theorem State.discardPayload_topics :
    (s.discardPayload).topics = s.topics := by
  rfl

@[simp] theorem State.discardPayload_selector :
    (s.discardPayload).selector = s.selector := by
  rfl

@[simp] theorem State.discardPayload_estimator :
    (s.discardPayload).estimator = s.estimator := by
  rfl

@[simp] theorem State.discardPayload_grip :
    (s.discardPayload).grip = s.grip := by
  rfl

@[simp] theorem State.discardPayload_drive :
    (s.discardPayload).drive = s.drive := by
  rfl

@[simp] theorem State.discardPayload_brake :
    (s.discardPayload).brake = s.brake := by
  rfl

@[simp] theorem State.discardPayload_publisher :
    (s.discardPayload).publisher = s.publisher := by
  rfl

@[simp] theorem State.discardPayload_generator :
    (s.discardPayload).generator = s.generator := by
  rfl

@[simp] theorem State.discardPayload_monitor :
    (s.discardPayload).monitor = s.monitor := by
  rfl

@[simp] theorem State.discardPayload_responder :
    (s.discardPayload).responder = s.responder := by
  rfl

@[simp] theorem State.clashTest_now (h : Heard) :
    (s.clashTest h).now = s.now := by
  unfold State.clashTest; split <;> simp

@[simp] theorem State.clashTest_pending (h : Heard) :
    (s.clashTest h).pending = s.pending := by
  unfold State.clashTest; split <;> simp

@[simp] theorem State.clashTest_draws (h : Heard) :
    (s.clashTest h).draws = s.draws := by
  unfold State.clashTest; split <;> simp

@[simp] theorem State.clashTest_memory (h : Heard) :
    (s.clashTest h).memory = s.memory := by
  unfold State.clashTest; split <;> simp

@[simp] theorem State.clashTest_loader (h : Heard) :
    (s.clashTest h).loader = s.loader := by
  unfold State.clashTest; split <;> simp

@[simp] theorem State.clashTest_topics (h : Heard) :
    (s.clashTest h).topics = s.topics := by
  unfold State.clashTest; split <;> simp

@[simp] theorem State.clashTest_selector (h : Heard) :
    (s.clashTest h).selector = s.selector := by
  unfold State.clashTest; split <;> simp

@[simp] theorem State.clashTest_estimator (h : Heard) :
    (s.clashTest h).estimator = s.estimator := by
  unfold State.clashTest; split <;> simp

@[simp] theorem State.clashTest_grip (h : Heard) :
    (s.clashTest h).grip = s.grip := by
  unfold State.clashTest; split <;> simp

@[simp] theorem State.clashTest_drive (h : Heard) :
    (s.clashTest h).drive = s.drive := by
  unfold State.clashTest; split <;> simp

@[simp] theorem State.clashTest_brake (h : Heard) :
    (s.clashTest h).brake = s.brake := by
  unfold State.clashTest; split <;> simp

@[simp] theorem State.clashTest_generator (h : Heard) :
    (s.clashTest h).generator = s.generator := by
  unfold State.clashTest; split <;> simp

@[simp] theorem State.clashTest_responder (h : Heard) :
    (s.clashTest h).responder = s.responder := by
  unfold State.clashTest; split <;> simp

@[simp] theorem State.receive_now (h : Heard) :
    (s.receive h).now = s.now := by
  cases h <;> simp [State.receive]

@[simp] theorem State.receive_pending (h : Heard) :
    (s.receive h).pending = s.pending := by
  cases h <;> simp [State.receive]

@[simp] theorem State.receive_draws (h : Heard) :
    (s.receive h).draws = s.draws := by
  cases h <;> simp [State.receive]

@[simp] theorem State.receive_memory (h : Heard) :
    (s.receive h).memory = s.memory := by
  cases h <;> simp [State.receive]

@[simp] theorem State.receive_loader (h : Heard) :
    (s.receive h).loader = s.loader := by
  cases h <;> simp [State.receive]

@[simp] theorem State.hearFrame_now (bits : List Level) :
    (s.hearFrame bits).now = s.now := by
  rw [State.hearFrame]
  split
  · exact (State.receive_now _ _).trans (State.clashTest_now _ _)
  · rfl

@[simp] theorem State.hearFrame_pending (bits : List Level) :
    (s.hearFrame bits).pending = s.pending := by
  rw [State.hearFrame]
  split
  · exact (State.receive_pending _ _).trans (State.clashTest_pending _ _)
  · rfl

@[simp] theorem State.hearFrame_draws (bits : List Level) :
    (s.hearFrame bits).draws = s.draws := by
  rw [State.hearFrame]
  split
  · exact (State.receive_draws _ _).trans (State.clashTest_draws _ _)
  · rfl

@[simp] theorem State.hearFrame_memory (bits : List Level) :
    (s.hearFrame bits).memory = s.memory := by
  rw [State.hearFrame]
  split
  · exact (State.receive_memory _ _).trans (State.clashTest_memory _ _)
  · rfl

@[simp] theorem State.hearFrame_loader (bits : List Level) :
    (s.hearFrame bits).loader = s.loader := by
  rw [State.hearFrame]
  split
  · exact (State.receive_loader _ _).trans (State.clashTest_loader _ _)
  · rfl

/-! ### The Profile Loader -/

@[simp] theorem State.pageBurstEnded_now (st : Store) (p : Nat) :
    (s.pageBurstEnded st p).now = s.now := by
  rfl

@[simp] theorem State.pageBurstEnded_pending (st : Store) (p : Nat) :
    (s.pageBurstEnded st p).pending = s.pending := by
  rfl

@[simp] theorem State.pageBurstEnded_draws (st : Store) (p : Nat) :
    (s.pageBurstEnded st p).draws = s.draws := by
  rfl

@[simp] theorem State.pageBurstEnded_memory (st : Store) (p : Nat) :
    (s.pageBurstEnded st p).memory = s.memory := by
  rfl

@[simp] theorem State.pageBurstEnded_loader (st : Store) (p : Nat) :
    (s.pageBurstEnded st p).loader = s.loader := by
  rfl

@[simp] theorem State.pageBurstEnded_link (st : Store) (p : Nat) :
    (s.pageBurstEnded st p).link = s.link := by
  rfl

@[simp] theorem State.pageBurstEnded_topics (st : Store) (p : Nat) :
    (s.pageBurstEnded st p).topics = s.topics := by
  rfl

@[simp] theorem State.pageBurstEnded_selector (st : Store) (p : Nat) :
    (s.pageBurstEnded st p).selector = s.selector := by
  rfl

@[simp] theorem State.pageBurstEnded_estimator (st : Store) (p : Nat) :
    (s.pageBurstEnded st p).estimator = s.estimator := by
  rfl

@[simp] theorem State.pageBurstEnded_grip (st : Store) (p : Nat) :
    (s.pageBurstEnded st p).grip = s.grip := by
  rfl

@[simp] theorem State.pageBurstEnded_drive (st : Store) (p : Nat) :
    (s.pageBurstEnded st p).drive = s.drive := by
  rfl

@[simp] theorem State.pageBurstEnded_brake (st : Store) (p : Nat) :
    (s.pageBurstEnded st p).brake = s.brake := by
  rfl

@[simp] theorem State.pageBurstEnded_publisher (st : Store) (p : Nat) :
    (s.pageBurstEnded st p).publisher = s.publisher := by
  rfl

@[simp] theorem State.pageBurstEnded_generator (st : Store) (p : Nat) :
    (s.pageBurstEnded st p).generator = s.generator := by
  rfl

@[simp] theorem State.pageBurstEnded_monitor (st : Store) (p : Nat) :
    (s.pageBurstEnded st p).monitor = s.monitor := by
  rfl

@[simp] theorem State.pageDone_now (st : Store) (p : Nat) :
    (s.pageDone st p).now = s.now := by
  unfold State.pageDone; dsimp only; split <;> simp

@[simp] theorem State.pageDone_pending (st : Store) (p : Nat) :
    (s.pageDone st p).pending = s.pending := by
  unfold State.pageDone; dsimp only; split <;> simp

@[simp] theorem State.pageDone_draws (st : Store) (p : Nat) :
    (s.pageDone st p).draws = s.draws := by
  unfold State.pageDone; dsimp only; split <;> simp

@[simp] theorem State.pageDone_link (st : Store) (p : Nat) :
    (s.pageDone st p).link = s.link := by
  unfold State.pageDone; dsimp only; split <;> simp

@[simp] theorem State.pageDone_topics (st : Store) (p : Nat) :
    (s.pageDone st p).topics = s.topics := by
  unfold State.pageDone; dsimp only; split <;> simp

@[simp] theorem State.pageDone_selector (st : Store) (p : Nat) :
    (s.pageDone st p).selector = s.selector := by
  unfold State.pageDone; dsimp only; split <;> simp

@[simp] theorem State.pageDone_estimator (st : Store) (p : Nat) :
    (s.pageDone st p).estimator = s.estimator := by
  unfold State.pageDone; dsimp only; split <;> simp

@[simp] theorem State.pageDone_grip (st : Store) (p : Nat) :
    (s.pageDone st p).grip = s.grip := by
  unfold State.pageDone; dsimp only; split <;> simp

@[simp] theorem State.pageDone_drive (st : Store) (p : Nat) :
    (s.pageDone st p).drive = s.drive := by
  unfold State.pageDone; dsimp only; split <;> simp

@[simp] theorem State.pageDone_brake (st : Store) (p : Nat) :
    (s.pageDone st p).brake = s.brake := by
  unfold State.pageDone; dsimp only; split <;> simp

@[simp] theorem State.pageDone_publisher (st : Store) (p : Nat) :
    (s.pageDone st p).publisher = s.publisher := by
  unfold State.pageDone; dsimp only; split <;> simp

@[simp] theorem State.pageDone_generator (st : Store) (p : Nat) :
    (s.pageDone st p).generator = s.generator := by
  unfold State.pageDone; dsimp only; split <;> simp

@[simp] theorem State.pageDone_monitor (st : Store) (p : Nat) :
    (s.pageDone st p).monitor = s.monitor := by
  unfold State.pageDone; dsimp only; split <;> simp

@[simp] theorem State.fixProfile_now :
    (s.fixProfile).now = s.now := by
  simp [State.fixProfile]

@[simp] theorem State.fixProfile_pending :
    (s.fixProfile).pending = s.pending := by
  simp [State.fixProfile]

@[simp] theorem State.fixProfile_draws :
    (s.fixProfile).draws = s.draws := by
  simp [State.fixProfile]

@[simp] theorem State.fixProfile_memory :
    (s.fixProfile).memory = s.memory := by
  simp [State.fixProfile]

@[simp] theorem State.fixProfile_topics :
    (s.fixProfile).topics = s.topics := by
  simp [State.fixProfile]

@[simp] theorem State.fixProfile_selector :
    (s.fixProfile).selector = s.selector := by
  simp [State.fixProfile]

@[simp] theorem State.fixProfile_estimator :
    (s.fixProfile).estimator = s.estimator := by
  simp [State.fixProfile]

@[simp] theorem State.fixProfile_grip :
    (s.fixProfile).grip = s.grip := by
  simp [State.fixProfile]

@[simp] theorem State.fixProfile_drive :
    (s.fixProfile).drive = s.drive := by
  simp [State.fixProfile]

@[simp] theorem State.fixProfile_brake :
    (s.fixProfile).brake = s.brake := by
  simp [State.fixProfile]

@[simp] theorem State.fixProfile_generator :
    (s.fixProfile).generator = s.generator := by
  simp [State.fixProfile]

@[simp] theorem State.startTimers_now :
    (s.startTimers).now = s.now := by
  simp [State.startTimers]

@[simp] theorem State.startTimers_pending :
    (s.startTimers).pending = s.pending := by
  simp [State.startTimers]

@[simp] theorem State.startTimers_draws :
    (s.startTimers).draws = s.draws := by
  simp [State.startTimers]

@[simp] theorem State.startTimers_memory :
    (s.startTimers).memory = s.memory := by
  simp [State.startTimers]

@[simp] theorem State.startTimers_loader :
    (s.startTimers).loader = s.loader := by
  simp [State.startTimers]

@[simp] theorem State.startTimers_link :
    (s.startTimers).link = s.link := by
  simp [State.startTimers]

@[simp] theorem State.startTimers_topics :
    (s.startTimers).topics = s.topics := by
  simp [State.startTimers]

@[simp] theorem State.startTimers_selector :
    (s.startTimers).selector = s.selector := by
  simp [State.startTimers]

@[simp] theorem State.startTimers_estimator :
    (s.startTimers).estimator = s.estimator := by
  simp [State.startTimers]

@[simp] theorem State.startTimers_generator :
    (s.startTimers).generator = s.generator := by
  simp [State.startTimers]

@[simp] theorem State.atRestExpired_now :
    (s.atRestExpired).now = s.now := by
  unfold State.atRestExpired; dsimp only; split <;> simp

@[simp] theorem State.atRestExpired_pending :
    (s.atRestExpired).pending = s.pending := by
  unfold State.atRestExpired; dsimp only; split <;> simp

@[simp] theorem State.atRestExpired_draws :
    (s.atRestExpired).draws = s.draws := by
  unfold State.atRestExpired; dsimp only; split <;> simp

@[simp] theorem State.atRestExpired_memory :
    (s.atRestExpired).memory = s.memory := by
  unfold State.atRestExpired; dsimp only; split <;> simp

@[simp] theorem State.atRestExpired_loader :
    (s.atRestExpired).loader = s.loader := by
  unfold State.atRestExpired; dsimp only; split <;> simp

@[simp] theorem State.atRestExpired_link :
    (s.atRestExpired).link = s.link := by
  unfold State.atRestExpired; dsimp only; split <;> simp

@[simp] theorem State.atRestExpired_topics :
    (s.atRestExpired).topics = s.topics := by
  unfold State.atRestExpired; dsimp only; split <;> simp

@[simp] theorem State.atRestExpired_estimator :
    (s.atRestExpired).estimator = s.estimator := by
  unfold State.atRestExpired; dsimp only; split <;> simp

@[simp] theorem State.atRestExpired_drive :
    (s.atRestExpired).drive = s.drive := by
  unfold State.atRestExpired; dsimp only; split <;> simp

@[simp] theorem State.atRestExpired_brake :
    (s.atRestExpired).brake = s.brake := by
  unfold State.atRestExpired; dsimp only; split <;> simp

@[simp] theorem State.atRestExpired_publisher :
    (s.atRestExpired).publisher = s.publisher := by
  unfold State.atRestExpired; dsimp only; split <;> simp

@[simp] theorem State.atRestExpired_generator :
    (s.atRestExpired).generator = s.generator := by
  unfold State.atRestExpired; dsimp only; split <;> simp

@[simp] theorem State.atRestExpired_monitor :
    (s.atRestExpired).monitor = s.monitor := by
  unfold State.atRestExpired; dsimp only; split <;> simp

@[simp] theorem State.atRestExpired_responder :
    (s.atRestExpired).responder = s.responder := by
  unfold State.atRestExpired; dsimp only; split <;> simp

end Sys2Proof.Machine
end

