-- ==== Sys2Proof/Laws/Reports.lean ====
section
/-! SUPPORT. What an offer, a condition report and a channel report do, said once: the link only takes offers,
the lamp ends true, the marks of one fault change and no other. -/

namespace Sys2Proof.Machine

variable (s : State)

/-! ### Offers -/

theorem Link.onlyOffers_refl (l : Link) : l.onlyOffers l := ⟨rfl, rfl, rfl, rfl, rfl, rfl, rfl, rfl⟩

theorem Link.onlyOffers_trans {a b c : Link} (h : a.onlyOffers b) (k : b.onlyOffers c) : a.onlyOffers c := by
  obtain ⟨h1, h2, h3, h4, h5, h6, h7, h8⟩ := h
  obtain ⟨k1, k2, k3, k4, k5, k6, k7, k8⟩ := k
  refine ⟨by rw [k1, h1], by rw [k2, h2], by rw [k3, h3], by rw [k4, h4], by rw [k5, h5], by rw [k6, h6],
    by rw [k7, h7], ?_⟩
  rw [k8, h8]

theorem Link.enqueue_onlyOffers (l : Link) (f : TxFrame) : l.onlyOffers (l.enqueue f).1 := by
  unfold Link.enqueue
  dsimp only
  repeat' split
  all_goals exact ⟨rfl, rfl, rfl, rfl, rfl, rfl, rfl, rfl⟩

theorem Link.offer_onlyOffers (l : Link) (t : TxTopic) (p : List Byte) : l.onlyOffers (l.offer t p).1 := by
  unfold Link.offer
  dsimp only
  repeat' split
  · exact Link.onlyOffers_refl l
  · exact ⟨rfl, rfl, rfl, rfl, rfl, rfl, rfl, rfl⟩
  · exact Link.enqueue_onlyOffers { l with seqs := l.seqs.set t (l.seqs.get t + 1) } _
  · exact ⟨rfl, rfl, rfl, rfl, rfl, rfl, rfl, rfl⟩

/-- What a block's offer does to the link. -/
theorem State.offer_link (t : TxTopic) (p : List Byte) : (s.offer t p).link = (s.link.offer t p).1 := rfl

theorem State.offer_onlyOffers (t : TxTopic) (p : List Byte) : s.link.onlyOffers (s.offer t p).link :=
  Link.offer_onlyOffers _ _ _

@[simp] theorem Publisher.forget_track (p : Publisher) (r : List TxReport) (c : Consumer) :
    (p.forget r).track c = p.track c := by cases c <;> rfl

@[simp] theorem Publisher.forget_engine (p : Publisher) (r : List TxReport) : (p.forget r).engine = p.engine := rfl
@[simp] theorem Publisher.forget_brake (p : Publisher) (r : List TxReport) : (p.forget r).brake = p.brake := rfl
@[simp] theorem Publisher.forget_gripStateDue (p : Publisher) (r : List TxReport) :
    (p.forget r).gripStateDue = p.gripStateDue := rfl

theorem Publisher.onlyAwaits_refl (p : Publisher) : p.onlyAwaits p := ⟨rfl, rfl, rfl⟩

theorem Publisher.onlyAwaits_trans {a b c : Publisher} (h : a.onlyAwaits b) (k : b.onlyAwaits c) :
    a.onlyAwaits c := ⟨k.1.trans h.1, k.2.1.trans h.2.1, k.2.2.trans h.2.2⟩

theorem State.offer_onlyAwaits (t : TxTopic) (p : List Byte) :
    s.publisher.onlyAwaits (s.offer t p).publisher := ⟨rfl, rfl, rfl⟩

/-! ### The lamp -/

theorem State.offerLtStatus_onlyOffers : s.link.onlyOffers s.offerLtStatus.link := by
  unfold State.offerLtStatus
  split
  · exact Link.onlyOffers_refl _
  · exact State.offer_onlyOffers _ _ _

theorem State.offerLtStatus_onlyAwaits : s.publisher.onlyAwaits s.offerLtStatus.publisher := by
  unfold State.offerLtStatus
  split <;> exact ⟨rfl, rfl, rfl⟩

/-- An LT_STATUS offer changes one count of the Monitor at most. -/
theorem State.offerLtStatus_monitor :
    s.offerLtStatus.monitor = { s.monitor with ltStatusOffers := s.offerLtStatus.monitor.ltStatusOffers } := by
  unfold State.offerLtStatus
  split
  · rfl
  · simp

@[simp] theorem State.offerLtStatus_faults : s.offerLtStatus.monitor.faults = s.monitor.faults := by
  rw [State.offerLtStatus_monitor]

@[simp] theorem State.offerLtStatus_lamp : s.offerLtStatus.monitor.lamp = s.monitor.lamp := by
  rw [State.offerLtStatus_monitor]

@[simp] theorem State.offerLtStatus_lampNow : s.offerLtStatus.monitor.lampNow = s.monitor.lampNow := by
  rw [State.offerLtStatus_monitor]; rfl

/-- The lamp decides from the fault set and the channel copy alone (R176). -/
@[simp] theorem Monitor.lampNow_withLamp (m : Monitor) (lamp : Lamp) (n k : Nat) :
    ({ m with lamp := lamp, lampChanges := n, ltStatusOffers := k } : Monitor).lampNow = m.lampNow := rfl

theorem State.refreshLamp_monitor : s.monitor.onlyLamp s.refreshLamp.monitor := by
  unfold State.refreshLamp Monitor.onlyLamp
  split
  · rfl
  · rw [State.offerLtStatus_monitor]; simp

@[simp] theorem State.refreshLamp_faults : s.refreshLamp.monitor.faults = s.monitor.faults := by
  rw [State.refreshLamp_monitor s]

@[simp] theorem State.refreshLamp_driveState :
    s.refreshLamp.monitor.driveState = s.monitor.driveState := by rw [State.refreshLamp_monitor s]

@[simp] theorem State.refreshLamp_drivePath :
    s.refreshLamp.monitor.drivePath = s.monitor.drivePath := by rw [State.refreshLamp_monitor s]

@[simp] theorem State.refreshLamp_frontWheel :
    s.refreshLamp.monitor.frontWheel = s.monitor.frontWheel := by rw [State.refreshLamp_monitor s]

@[simp] theorem State.refreshLamp_rearWheel :
    s.refreshLamp.monitor.rearWheel = s.monitor.rearWheel := by rw [State.refreshLamp_monitor s]

@[simp] theorem State.refreshLamp_regulationCut :
    s.refreshLamp.monitor.regulationCut = s.monitor.regulationCut := by rw [State.refreshLamp_monitor s]

/-- A re-evaluation leaves the lamp as the table of R176 gives it. -/
theorem State.refreshLamp_lampTrue : s.refreshLamp.lampTrue := by
  unfold State.refreshLamp State.lampTrue
  split
  · exact Eq.symm ‹_›
  · rw [State.offerLtStatus_lamp, State.offerLtStatus_lampNow]; rfl

theorem State.refreshLamp_onlyOffers : s.link.onlyOffers s.refreshLamp.link := by
  unfold State.refreshLamp
  split
  · exact Link.onlyOffers_refl _
  · exact State.offerLtStatus_onlyOffers _

theorem State.refreshLamp_onlyAwaits : s.publisher.onlyAwaits s.refreshLamp.publisher := by
  unfold State.refreshLamp
  split
  · exact Publisher.onlyAwaits_refl _
  · exact State.offerLtStatus_onlyAwaits _

/-! ### Condition reports -/

theorem FaultSet.onlyFault_refl (a : FaultSet) (f : Fault12) : a.onlyFault a f (a.get f).active :=
  ⟨rfl, fun _ _ => rfl⟩

theorem State.report_faults (f : Fault12) (b : Bool) :
    (s.report f b).monitor.faults = s.monitor.faults.set f ((s.monitor.faults.get f).reported b) := by
  simp [State.report]

@[simp] theorem FaultMark.reported_active (m : FaultMark) (b : Bool) : (m.reported b).active = b := by
  unfold FaultMark.reported
  cases b
  · rfl
  · simp only [if_true]; split <;> simp_all

/-- A condition brought up to date: its mark ends active or not as asked, and no other fault changes. -/
theorem State.setCondition_onlyFault (f : Fault12) (b : Bool) :
    s.monitor.faults.onlyFault (s.setCondition f b).monitor.faults f b := by
  unfold State.setCondition
  split
  · exact ⟨‹_›, fun _ _ => rfl⟩
  · rw [State.report_faults]
    refine ⟨?_, fun g hg => ?_⟩
    · cases f <;> simp [FaultSet.get, FaultSet.set]
    · cases f <;> cases g <;> first | exact absurd rfl hg | rfl

@[simp] theorem State.setCondition_active (f : Fault12) (b : Bool) :
    (s.setCondition f b).conditionActive f = b := (State.setCondition_onlyFault s f b).1

theorem State.setCondition_other (f : Fault12) (b : Bool) {g : Fault12} (h : g ≠ f) :
    (s.setCondition f b).monitor.faults.get g = s.monitor.faults.get g :=
  (State.setCondition_onlyFault s f b).2 g h

theorem State.report_onlyOffers (f : Fault12) (b : Bool) : s.link.onlyOffers (s.report f b).link :=
  State.refreshLamp_onlyOffers (s.setMonitor _)

theorem State.setCondition_onlyOffers (f : Fault12) (b : Bool) :
    s.link.onlyOffers (s.setCondition f b).link := by
  unfold State.setCondition
  split
  · exact Link.onlyOffers_refl _
  · exact State.report_onlyOffers s f b

theorem State.setCondition_onlyAwaits (f : Fault12) (b : Bool) :
    s.publisher.onlyAwaits (s.setCondition f b).publisher := by
  unfold State.setCondition
  split
  · exact Publisher.onlyAwaits_refl _
  · exact State.refreshLamp_onlyAwaits (s.setMonitor _)

/-- A condition report keeps the lamp true. -/
theorem State.setCondition_lampTrue (f : Fault12) (b : Bool) (h : s.lampTrue) :
    (s.setCondition f b).lampTrue := by
  unfold State.setCondition
  split
  · exact h
  · exact State.refreshLamp_lampTrue _

/-! ### Channel reports -/

theorem State.tellDriveIfChanged_onlyOffers (d : Drive) : s.link.onlyOffers (s.tellDriveIfChanged d).link := by
  unfold State.tellDriveIfChanged State.tellDrive
  split
  · exact Link.onlyOffers_refl _
  · exact State.refreshLamp_onlyOffers (s.setMonitor _)

theorem State.tellStep_onlyOffers (d : Drive) : s.link.onlyOffers (s.tellStep d).link :=
  State.refreshLamp_onlyOffers (s.setMonitor (s.monitor.copyStep d s.drive s.generator.cutActive))

/-- After the reports of a step the lamp is that of the copy and the fault set as they stand. -/
theorem State.tellStep_lampTrue (d : Drive) : (s.tellStep d).lampTrue := State.refreshLamp_lampTrue _

@[simp] theorem State.tellStep_faults (d : Drive) : (s.tellStep d).monitor.faults = s.monitor.faults := by
  simp only [State.tellStep, State.refreshLamp_faults, State.setMonitor_monitor, Monitor.copyStep]
  split <;> rfl

@[simp] theorem State.tellStep_regulationCut (d : Drive) :
    (s.tellStep d).monitor.regulationCut = s.generator.cutActive := by
  simp only [State.tellStep, State.refreshLamp_regulationCut, State.setMonitor_monitor, Monitor.copyStep]
  split <;> rfl

/-- A copy that held the state and path before the step holds those after it. -/
theorem State.tellStep_copy (d : Drive) (hs : s.monitor.driveState = d.state)
    (hp : s.monitor.drivePath = d.path) :
    (s.tellStep d).monitor.driveState = s.drive.state ∧ (s.tellStep d).monitor.drivePath = s.drive.path := by
  simp only [State.tellStep, State.refreshLamp_driveState, State.refreshLamp_drivePath,
    State.setMonitor_monitor, Monitor.copyStep]
  split
  · rename_i h; exact ⟨hs.trans h.1.symm, hp.trans h.2.symm⟩
  · exact ⟨rfl, rfl⟩

theorem State.tellBrakeIfChanged_onlyOffers (b : Brake) : s.link.onlyOffers (s.tellBrakeIfChanged b).link := by
  unfold State.tellBrakeIfChanged
  split
  · exact Link.onlyOffers_refl _
  · exact State.refreshLamp_onlyOffers (s.setMonitor _)

theorem State.tellCut_onlyOffers (b : Bool) : s.link.onlyOffers (s.tellCut b).link := by
  unfold State.tellCut
  split
  · exact Link.onlyOffers_refl _
  · exact State.refreshLamp_onlyOffers (s.setMonitor _)

/-! ### Frames of the whole state -/

/-- A frame follows from agreement on every part not named. -/
theorem State.onlyChanges_of {s t : State} {ps : List Part} (h : ∀ p : Part, p ∉ ps → s.agreesOn t p) :
    s.onlyChanges t ps := h

/-- A wider list of changed parts. -/
theorem State.onlyChanges_mono {s t : State} {ps qs : List Part} (h : s.onlyChanges t ps)
    (hs : ∀ p ∈ ps, p ∈ qs) : s.onlyChanges t qs := fun p hp => h p fun k => hp (hs p k)

end Sys2Proof.Machine
end

