-- ==== Sys2Proof/Tests/Slice0.lean ====
section
/-! SUPPORT. The tests. First the well-formedness smoke tests and one or two small tests per command, with values
taken from the manual's tables and worked sequences or worked out by hand from its rules; then, for every
statement with hypotheses, a witness that meets them, at the boundary values where its clauses meet. -/

namespace Sys2Proof.Tests

-- One test after another: many kernel evaluations at once take a thread's stack each.
set_option Elab.async false

open Sys2Proof Sys2Proof.Machine

/-! ### Helpers: small states -/

/-- The state after a command. -/
def ran (c : Instr) (s : State) : State :=
  match exec c s with
  | .next t => t
  | _ => s

/-- A part that runs its fallback profile (mode WET), every block at its power-on values, the link inactive. -/
def running : State := State.reset.setLoader { Loader.initial with phase := .running }

/-- A part in a given link state. -/
def linked (l : LinkState) : State := running.setLink { Link.initial with state := l }

/-- A part whose link is JOINED. -/
def joined : State := linked .joined

/-- A part whose link is SILENT, its join wait running to 500 ms. -/
def silent : State :=
  running.setLink { Link.initial with state := .silent, joinWaitEnds := some 5000 }

/-- A part whose link is MUTED until 200 ms. -/
def muted : State :=
  running.setLink { Link.initial with state := .muted, failures := 16, muteEnds := some 2000 }

/-- A waiting frame of a topic with a sequence and no payload to speak of. -/
def txFrame (t : TxTopic) (n : Seq) : TxFrame := ⟨t, n, [0, 0]⟩

/-- JOINED, a DRIVE_LIMIT frame of sequence 7 on the wire, some frames waiting, some failures counted. -/
def sending (queue : List TxFrame) (failures : Nat) : State :=
  running.setLink
    { Link.initial with
      state := .joined
      wire := some (txFrame .driveLimit 7)
      queue := queue
      failures := failures }

/-- The frames of the other four topics. -/
def fourWaiting : List TxFrame :=
  [txFrame .brakeLimit 1, txFrame .gripState 1, txFrame .ltStatus 1, txFrame .serviceReply 1]

/-- An accepted entry: FRESH, accepted at 0 with sequence 3, holding some fields. -/
def heldEntry (fields : List (Option Int)) : Entry :=
  { Entry.initial with
    freshness := .fresh
    lastSeq := some 3
    fields := fields
    acceptedAt := some 0
    heard := true }

/-- A state with an entry replaced. -/
def withEntry (e : EntryName) (x : Entry) (s : State) : State := s.setTopics (s.topics.set e x)

/-- WHEEL_SPEEDS with a front and a rear speed. -/
def speeds (front rear : Int) (s : State) : State :=
  withEntry .wheelSpeeds (heldEntry [some front, some rear]) s

/-- ENGINE_STATE with a rider demand and a delivered torque, in third gear, the echo absent. -/
def engine (demand delivered : Int) (s : State) : State :=
  withEntry .engineState (heldEntry [some demand, some delivered, some 3, none]) s

/-- BRAKE_STATE with the front demand and applied pressure and the two ABS flags, the echo absent. -/
def brakes (demand applied : Int) (front rear : Int) (s : State) : State :=
  withEntry .brakeState
    (heldEntry [some demand, some 0, some applied, some 0, some front, some rear, none]) s

/-- A budget of band 6 drawn at time 0 with a drive grip limit and a front brake limit. -/
def budget (drive front : Nat) : BudgetRecord :=
  ⟨0, 0, 6, 3041, 1126, 600, 952, false, 5886, 2650, 3236, drive, none, 0, true, 2650, 3236, front, 500,
    false⟩

/-- A state with a budget. -/
def drawn (b : BudgetRecord) (s : State) : State := s.setGrip { s.grip with latest := some b }

/-- A state in riding mode TOUR. -/
def tour (s : State) : State := s.setSelector { s.selector with mode := .tour }

/-- A lean record of a lean, the kinematic candidate its only one, made at time 0. -/
def leaning (lean : Int) : LeanRecord := makeLeanRecord .a (some lean) none none 4500 0

/-- The regulator in a state with a working limit and a hold count, its step due at once; the pair of worked case
A in TOUR at 20.00 m/s with a drive grip limit and a rear speed, the link JOINED. -/
def regulating (state : DriveState) (working : Option Nat) (hold : Nat) (limit : Nat) (rear : Int) : State :=
  engine 950 900 (speeds 2000 rear (drawn (budget limit 420) (tour joined)))
    |>.setDrive
      { Drive.initial with
        state := state
        path := if state = .inhibited then .none else .bus
        working := working
        holdCount := hold
        stepDue := some 0 }

/-- The front wheel in a state with a published limit, the brake step due at once, in TOUR with band 6. -/
def braking (state : WheelState) (published : Option Nat) (demand applied abs : Int) (limit : Nat) : State :=
  brakes demand applied abs 0 (drawn (budget 900 limit) (tour joined))
    |>.setBrake ⟨{ Wheel.initial with state := state, published := published }, .initial, some 0⟩

/-- The cut generator running a period from 0. -/
def cutting (purpose : CutPurpose) (slots latest : Nat) (ends : Option Nat) : State :=
  joined.setGenerator
    { Generator.initial with
      run := some ⟨purpose, slots, 0⟩
      latestDemand := latest
      lastPath := if purpose = .regulation then .cutLine else .bus
      assertionEnds := ends
      asserted := ends.isSome }

/-- The commissioning window open, and perhaps a store in progress. -/
def serving (store : Option StoreStage) : State :=
  joined.setResponder
    { Responder.initial with
      windowEnds := some 100000
      store := store.map fun st => ⟨st, 9, 0, 0⟩ }

/-- The levels of a frame that a station sends. -/
def heard (topic sender : Nat) (n : Seq) (payload : List Byte) : List Level :=
  encodeFrame ⟨topic, sender, n, payload⟩

/-- A service request of the diagnostic tool: tag 9, code 0. -/
def request (kind record offset : Byte) : List Byte := [12, 9, 0, kind, record, offset, 0, 0, 0, 0]

/-- An image that the loader accepts: format 1, no entry required, every other byte erased, and its check code. -/
def plainImage : Memory :=
  withCode [(0, 1), (181, 0), (187, 0), (193, 0), (199, 0), (205, 0), (211, 0), (217, 0), (223, 0)]

/-! ### Well-formedness: one ill-formed term for each check -/

theorem test_burst_of_63_bytes_is_refused :
    (Instr.readBurstEnd 5 (some (List.replicate 63 0))).wellFormed = false ∧
      (Instr.profileLoadComplete (some [])).wellFormed = false ∧
      (Instr.storeReadbackComplete 5 (some (List.replicate 65 0))).wellFormed = false ∧
      (Instr.readBurstEnd 5 (some (List.replicate 64 0))).wellFormed = true := by decide

theorem test_frame_without_start_bit_is_refused :
    (Instr.frameHeard 1 [true]).wellFormed = false ∧ (Instr.frameHeard 1 []).wellFormed = false ∧
      (Instr.frameHeard 1 [false]).wellFormed = true := by decide

theorem test_priority_key_of_16_bits_is_refused :
    (Instr.arbitrationLoss 1 32768).wellFormed = false ∧
      (Instr.arbitrationLoss 1 32767).wellFormed = true := by decide

theorem test_frame_of_13_bytes_is_ill_formed :
    (Frame.mk 20 2 0 (List.replicate 13 0)).wellFormed = false ∧
      (Frame.mk 1024 2 0 []).wellFormed = false ∧ (Frame.mk 20 32 0 []).wellFormed = false := by decide

theorem test_table_words_spell_no_command : decodeTableWord 8 0 = none := rfl

/-! ### The wire, from R3 and R192 -/

/-- The usual check values of the two polynomials over the digits 1 to 9, with these register starts. -/
theorem test_checks_of_the_nine_digits :
    headerCheck (bytesToBits [0x31, 0x32, 0x33, 0x34, 0x35, 0x36, 0x37, 0x38, 0x39]) = 0xF4 ∧
      payloadCheck (bytesToBits [0x31, 0x32, 0x33, 0x34, 0x35, 0x36, 0x37, 0x38, 0x39]) = 0x29B1 := by
  decide +kernel

/-- A run of five levels and more is broken by one bit of the other level; the last run needs none. -/
theorem test_stuffing :
    stuffed Run.start [false, false, false, false, false, false, true] =
        [false, false, false, false, false, true, false, true] ∧
      stuffed Run.start [true, true, true, true, true] = [true, true, true, true, true] := by decide

theorem test_slot_readings :
    slotOutcome false true = .delivered ∧ slotOutcome true false = .rejected ∧
      slotOutcome false false = .rejected ∧ slotOutcome true true = .unheard := by decide

/-! ### One or two tests per command -/

/-- POWER_ON (R180, R188): the part loads again, and the serial memory keeps what it held. -/
theorem test_power_on :
    (ran .powerOn (joined.setMemory [(3, 1)])).loader.phase = .loading 0 ∧
      (ran .powerOn (joined.setMemory [(3, 1)])).link.state = .inactive ∧
      (ran .powerOn (joined.setMemory [(3, 1)])).memory = [(3, 1)] := by decide

/-- READ_BURST_END (R180): an erased memory leaves the image erased; MIN held low reads as zeros. -/
theorem test_read_burst_end :
    (ran (.readBurstEnd 5 none) State.reset).loader.phase = .loading 1 ∧
      (ran (.readBurstEnd 5 none) State.reset).loader.readImage = [] ∧
      (ran (.readBurstEnd 5 (some (List.replicate 64 0))) State.reset).loader.readImage.read 63 = 0 := by
  decide +kernel

/-- MSEL is driven in a burst and released between two of them (R180; log entry 2 for how long). -/
theorem test_memory_pins_between_bursts :
    State.reset.pins.burst = true ∧ (ran (.readBurstEnd 5 none) State.reset).pins.burst = false ∧
      ((ran (.readBurstEnd 5 none) State.reset).setNow 6).pins.burst = true ∧ running.pins.burst = false :=
  ⟨rfl, rfl, rfl, rfl⟩

set_option maxRecDepth 100000 in
/-- PROFILE_LOAD_COMPLETE (R181, R183): an erased memory gives the fallback profile in mode WET, the link SILENT
and the fault PROFILE_FALLBACK. -/
theorem test_profile_load_complete_of_an_erased_memory :
    let t := ran (.profileLoadComplete none) (State.reset.setLoader { Loader.initial with phase := .loading 3 })
    t.loader.fallback = true ∧ t.selector.mode = .wet ∧ t.link.state = .silent ∧
      t.conditionActive .profileFallback = true ∧ t.conditionActive .profileClamped = false := by
  decide +kernel

set_option maxRecDepth 100000 in
/-- PROFILE_LOAD_COMPLETE (R15, R182): an image of format 1 is accepted and clamped; it requires no
entry, so the link is JOINED at once. -/
theorem test_profile_load_complete_of_a_plain_image :
    let t := ran (.profileLoadComplete none)
      ((State.reset.setMemory plainImage).setLoader
        { Loader.initial with phase := .loading 3, readImage := plainImage })
    t.loader.fallback = false ∧ t.profile.baseMass = 500 ∧ t.profile.cutPeriod = 48 ∧
      t.link.state = .joined ∧ t.conditionActive .profileClamped = true := by
  decide +kernel

/-- FRAME_HEARD (R25, R26): WHEEL_SPEEDS of station 2, 20.00 and 22.90 m/s, is accepted and acknowledged. -/
theorem test_frame_heard_is_accepted :
    let t := ran (.frameHeard 20 (heard 20 2 1 [0x07, 0xD0, 0x08, 0xF2])) joined
    t.topics.frontSpeed = some 2000 ∧ t.topics.rearSpeed = some 2290 ∧
      t.topics.wheelSpeeds.accepted = 1 ∧ t.link.slotDrive = .accept ∧ t.now = 20 := by
  decide +kernel

/-- FRAME_HEARD (R5): with a payload bit turned over the frame is rejected and counted. -/
theorem test_frame_heard_with_a_damaged_payload :
    let t := ran (.frameHeard 20 ((heard 20 2 1 [0x07, 0xD0, 0x08, 0xF2]).set 46 true)) joined
    t.topics = joined.topics ∧ t.link.slotDrive = .reject ∧ t.link.counters.payloadErrors = 1 := by
  decide +kernel

/-- FRAME_START, the worked sequence of the chapter on the link, event 4: 40/7 starts. -/
theorem test_frame_start :
    let s := joined.setLink
      { joined.link with
        queue := [txFrame .driveLimit 7, txFrame .brakeLimit 11, txFrame .ltStatus 3]
        failures := 2 }
    (ran (.frameStart 1) s).link.wire = some (txFrame .driveLimit 7) ∧
      (ran (.frameStart 1) s).link.queue = [txFrame .brakeLimit 11, txFrame .ltStatus 3] := by decide

/-- ARBITRATION_LOSS, event 6 of the same sequence: ENGINE_STATE has the key 961, and 40/8 waits. -/
theorem test_arbitration_loss_superseded :
    let s := sending [txFrame .driveLimit 8, txFrame .brakeLimit 11, txFrame .ltStatus 3] 2
    (ran (.arbitrationLoss 1 961) s).link.wire = none ∧
      (ran (.arbitrationLoss 1 961) s).link.queue =
        [txFrame .driveLimit 8, txFrame .brakeLimit 11, txFrame .ltStatus 3] ∧
      (ran (.arbitrationLoss 1 961) s).link.counters.superseded = 1 ∧
      (ran (.arbitrationLoss 1 961) s).link.failures = 2 := by decide

/-- ARBITRATION_LOSS (R11, R12): back in a queue of four others, the service reply is dropped. -/
theorem test_arbitration_loss_evicts_the_highest_topic :
    (ran (.arbitrationLoss 1 961) (sending fourWaiting 2)).link.queue =
        [txFrame .driveLimit 7, txFrame .brakeLimit 1, txFrame .gripState 1, txFrame .ltStatus 1] ∧
      (ran (.arbitrationLoss 1 961) (sending fourWaiting 2)).link.counters.dropped = 1 := by decide

/-- COLLIDED (R8): the frame is gone, STATION_CLASH is active, and the part waits for idle. -/
theorem test_collided :
    let t := ran (.collided 3) (sending [] 2)
    t.link.wire = none ∧ t.link.failures = 3 ∧ t.link.awaitingIdle = true ∧
      t.conditionActive .stationClash = true := by decide

/-- ACK_SLOT_READ, event 9 of the worked sequence: DELIVERED returns the failure count to 0. -/
theorem test_ack_slot_read_delivered :
    let t := ran (.ackSlotRead 3 false true) (sending [txFrame .brakeLimit 11] 2)
    t.link.wire = none ∧ t.link.failures = 0 ∧ t.link.counters.delivered = 1 := by decide

/-- ACK_SLOT_READ (R14, R17): the sixteenth failure mutes the link for 200 ms and drops what waits; the
LT_STATUS frame of the lamp change is dropped too. -/
theorem test_ack_slot_read_mutes :
    let t := ran (.ackSlotRead 3 true true) (sending [txFrame .brakeLimit 11] 15)
    t.link.state = .muted ∧ t.link.queue = [] ∧ t.link.counters.dropped = 2 ∧
      t.link.muteEnds = some 2003 := by decide

/-- MUTE_EXPIRY (R17): a new join wait of 500 ms. -/
theorem test_mute_expiry :
    (ran .muteExpiry muted).link.state = .silent ∧ (ran .muteExpiry muted).link.failures = 0 ∧
      (ran .muteExpiry muted).link.joinWaitEnds = some 7000 := by decide

/-- JOIN_WAIT_EXPIRY (R16): JOINED with PEERS_MISSING active, at 500 ms. -/
theorem test_join_wait_expiry :
    (ran .joinWaitExpiry silent).link.state = .joined ∧ (ran .joinWaitExpiry silent).now = 5000 ∧
      (ran .joinWaitExpiry silent).conditionActive .peersMissing = true := by decide

/-- DEADLINE_EXPIRY (R30): WHEEL_SPEEDS is LATE 10 ms after its frame. -/
theorem test_deadline_expiry :
    (ran (.deadlineExpiry .wheelSpeeds) (speeds 2000 2000 joined)).topics.wheelSpeeds.freshness = .late ∧
      (ran (.deadlineExpiry .wheelSpeeds) (speeds 2000 2000 joined)).now = 100 ∧
      (ran (.deadlineExpiry .wheelSpeeds) (speeds 2000 2000 joined)).topics.frontSpeed = some 2000 := by
  decide

/-- STALE_EXPIRY (R31): WHEEL_SPEEDS is STALE at three deadlines, SPEED_LOST active. -/
theorem test_stale_expiry :
    let s := withEntry .wheelSpeeds { heldEntry [some 2000, some 2000] with freshness := .late } joined
    (ran (.staleExpiry .wheelSpeeds) s).now = 300 ∧
      (ran (.staleExpiry .wheelSpeeds) s).conditionActive .speedLost = true ∧
      (ran (.staleExpiry .wheelSpeeds) s).topics.frontSpeed = none := by decide

/-- AT_REST_EXPIRY (R47): the latch opens and a SOLO record is made, 390 + 90 kg. -/
theorem test_at_rest_expiry :
    let s := (speeds 0 0 joined).setSelector
      { Selector.initial with latch := .latched, atRestEnds := some 20000 }
    (ran .atRestExpiry s).selector.latch = .opened ∧
      (ran .atRestExpiry s).selector.load = some ⟨480, 640, 532, .default⟩ := by decide

/-- BASE_VALIDITY_EXPIRY (R56): the base goes 20.0 ms after its record. -/
theorem test_base_validity_expiry :
    let s := joined.setEstimator { Estimator.initial with base := some ⟨3041, 5⟩ }
    (ran .baseValidityExpiry s).estimator.base = none ∧ (ran .baseValidityExpiry s).now = 205 := by decide

/-- RELIEF_EXPIRY (R96): -32 without a mark rises to -28, with a mark it stays and the mark goes; -2 rises to 0. -/
theorem test_relief_expiry :
    let s := joined.setGrip
      { GripUnit.initial with
        table := [⟨-32, false⟩, ⟨-32, true⟩, ⟨-2, false⟩, ⟨0, false⟩]
        reliefEnds := some 10000 }
    (ran .reliefExpiry s).grip.table = [⟨-28, false⟩, ⟨-32, false⟩, ⟨0, false⟩, ⟨0, false⟩] ∧
      (ran .reliefExpiry s).grip.reliefEnds = some 20000 := by decide

/-- REGULATION_STEP, step 1 of the wet bend exit: slip 148 over 102, the cut to 787, a notice for band 6. -/
theorem test_regulation_step_cuts :
    let t := ran .regulationStep (regulating .tracking (some 992) 0 992 2290)
    t.drive.state = .cutting ∧ t.drive.working = some 787 ∧ t.drive.lastSlip = some 148 ∧
      t.drive.lastTarget = some 102 ∧ (t.grip.entry 6).corr = -32 ∧
      t.publisher.awaited = [⟨.driveLimit, 1, .drive 787⟩] := by
  decide +kernel

/-- REGULATION_STEP, step 23: the hold ends and the ramp begins with 698. -/
theorem test_regulation_step_ramps :
    let t := ran .regulationStep (regulating .holding (some 688) 1 953 2100)
    t.drive.state = .ramping ∧ t.drive.working = some 698 ∧ t.drive.holdCount = 0 := by
  decide +kernel

/-- A step that ends INHIBITED, a chassis reset and another that ends INHIBITED: one entry, since the step before
the second ended so too (R128). The two wheels likewise (R147). -/
theorem test_inhibited_steps_around_a_reset_are_one_entry :
    let timed := (joined.setDrive { Drive.initial with stepDue := some 0 }).setBrake
      ⟨.initial, .initial, some 0⟩
    let once := (ran .brakeStep (ran .regulationStep timed)).chassisReset
    let twice := ran .brakeStep (ran .regulationStep once)
    once.drive.state = .passive ∧ twice.drive.state = .inhibited ∧ twice.drive.inhibitedEntries = 1 ∧
      twice.brake.front.state = .inhibited ∧ twice.brake.front.inhibitedEntries = 1 := by
  decide +kernel

/-- A step that enters CUTTING, a chassis reset and a closed throttle: the request waits, and record 13 gives the
state and T_work that the step left (R51, R128). -/
theorem test_request_waits_through_a_reset :
    let cut := (ran .regulationStep (regulating .tracking (some 992) 0 992 2290)).chassisReset
    let asked := engine 0 0 (cut.setSelector { cut.selector with request := some ⟨.road, 1⟩ })
    asked.drive.state = .passive ∧ asked.testAdoption = asked ∧
      (asked.drive.stateLeft, asked.drive.lastWorking) = (.cutting, some 787) ∧
      (asked.record13.take 4) = [2, 0, 3, 19] := by
  decide +kernel

/-- BRAKE_STEP (R134): from 524 bar tenths with the lever at 420, the limit falls by the brake fall of 10. -/
theorem test_brake_step_falls :
    let t := ran .brakeStep (braking .engaged (some 534) 700 534 0 420)
    t.brake.front.state = .engaged ∧ t.brake.front.published = some 524 ∧
      t.brake.rear.state = .passive := by
  decide +kernel

/-- GRIP_STATE (R151): 11 bytes in the queue, and the timer again at 20 ms. -/
theorem test_grip_state :
    let s := joined.setPublisher { Publisher.initial with gripStateDue := some 200 }
    ((ran .gripState s).link.queue.map fun f => (f.topic.number, f.payload.length)) = [(300, 11)] ∧
      (ran .gripState s).publisher.gripStateDue = some 400 := by
  decide +kernel

/-- ECHO_DEADLINE_EXPIRY (R155): 30 ms after its delivery the entry goes as a miss. -/
theorem test_echo_deadline_expiry :
    let s := joined.setPublisher
      { Publisher.initial with engine := { Track.initial with echoes := [⟨7, .drive 787, 10⟩] } }
    (ran (.echoDeadlineExpiry .engine) s).publisher.engine.echoes = [] ∧
      (ran (.echoDeadlineExpiry .engine) s).publisher.engine.status = .lagging ∧
      (ran (.echoDeadlineExpiry .engine) s).now = 310 := by decide

/-- ASSERTION_END_EXPIRY, the cut period at 6 ms: the line is released, the period runs on. -/
theorem test_assertion_end_expiry :
    let t := ran .assertionEndExpiry (cutting .regulation 2 2 (some 60))
    t.generator.asserted = false ∧ t.generator.run = some ⟨.regulation, 2, 0⟩ := by decide

/-- CUT_PERIOD_EXPIRY, the cut period at 24 ms: the demand of 3 asserts the line until 33 ms. -/
theorem test_cut_period_expiry :
    let t := ran .cutPeriodExpiry (cutting .regulation 4 3 none)
    t.generator.run = some ⟨.regulation, 3, 240⟩ ∧ t.generator.assertionEnds = some 330 ∧
      t.generator.asserted = true := by decide

/-- LT_STATUS (R178): the six bytes of a part without faults or lean record (level REDUCED), on path NONE in
mode WET. -/
theorem test_lt_status :
    let s := joined.setMonitor { Monitor.initial with ltStatusDue := some 1000 }
    ((ran .ltStatus s).link.queue.map fun f => (f.topic.number, f.payload)) =
        [(600, [0, 0, 0, 1, 2, 1])] ∧
      (ran .ltStatus s).monitor.ltStatusDue = some 2000 := by decide

/-- Step 46 of the worked sequence of chapter 9, at 225 ms: the path is BUS again, the cut has ended, and the frame
of the lamp change to STEADY carries LINK_MUTED latched, the level NORMAL and the path BUS, in mode TOUR. -/
theorem test_lt_status_of_step_46 :
    let s := regulating .ramping (some 698) 0 953 2100
    let m := s.monitor
    let onLine := ((((s.setDrive { s.drive with path := .cutLine }).setGenerator
      (cutting .regulation 1 1 none).generator).setEstimator
        { Estimator.initial with latest := some { leaning 3041 with status := .pair } }).setMonitor
          { m with
            faults := m.faults.set .linkMuted ⟨false, true, 1⟩
            lamp := .flashing
            driveState := .ramping
            drivePath := .cutLine
            regulationCut := true })
    let t := ran .regulationStep onLine
    t.monitor.lamp = .steady ∧
      ((t.link.queue.filter fun f => f.topic == .ltStatus).map fun f => f.payload) = [[2, 0, 1, 0, 0, 3]] := by
  decide +kernel

/-- WINDOW_EXPIRY (R184): the window closes at 10,000 ms. -/
theorem test_window_expiry :
    (ran .windowExpiry (serving none)).responder.windowEnds = none ∧
      (ran .windowExpiry (serving none)).now = 100000 := by decide

/-- STORE_PAGE_BURST_END (R188): the wait for the done report begins. -/
theorem test_store_page_burst_end :
    (ran (.storePageBurstEnd 4) (serving (some (.pageBurst 2)))).responder.store =
      some ⟨.pageWait 2 4, 9, 0, 0⟩ := by decide

/-- STORE_PAGE_DONE (R188): exactly 15 ms after the burst still counts, and the next page follows. -/
theorem test_store_page_done :
    (ran (.storePageDone 150) (serving (some (.pageWait 2 0)))).responder.store =
        some ⟨.pageBurst 3, 9, 0, 0⟩ ∧
      (ran (.storePageDone 150) (serving (some (.pageWait 3 0)))).responder.store =
        some ⟨.readBack 0, 9, 0, 0⟩ := by
  decide +kernel

/-- STORE_PAGE_TIMEOUT (R188): the store has failed, and the reply says so. -/
theorem test_store_page_timeout :
    let t := ran .storePageTimeout (serving (some (.pageWait 2 0)))
    t.responder.store = none ∧ t.responder.failedStores = 1 ∧
      t.conditionActive .storeFailed = true ∧
      (t.link.queue.map fun f => (f.topic.number, f.payload)).getLast? = some (951, [9, 8, 0, 0]) := by
  decide +kernel

/-- STORE_READBACK_COMPLETE (R188): what was read agrees with the pending image, so the store has succeeded. -/
theorem test_store_readback_complete :
    let t := ran (.storeReadbackComplete 5 none) (serving (some (.readBack 3)))
    t.responder.store = none ∧ t.responder.failedStores = 0 ∧
      (t.link.queue.map fun f => (f.topic.number, f.payload)) = [(951, [9, 0, 0, 0])] := by
  decide +kernel

/-- STORE_READBACK_COMPLETE with MIN held low: a byte differs, so the store has failed. -/
theorem test_store_readback_differs :
    (ran (.storeReadbackComplete 5 (some (List.replicate 64 0)))
      (serving (some (.readBack 3)))).responder.failedStores = 1 := by
  decide +kernel

/-- MEDIUM_IDLE (R192): a part that had given up a frame takes part again. -/
theorem test_medium_idle :
    (ran (.mediumIdle 2) (joined.setLink { joined.link with awaitingIdle := true })).link.awaitingIdle =
      false := by decide

/-- An idle part takes the timer that is due. -/
theorem test_idle_part_takes_the_due_timer :
    step (silent.setNow 5000) = .next (ran .joinWaitExpiry (silent.setNow 5000)) := rfl

/-! ### The requests and records, from R185..R191 -/

/-- READ of record 0 (the chapter on formats): vendor 0x3A17, part 0x0040, revision 1, fallback, own station 12,
format 1. -/
theorem test_read_of_record_zero :
    (running.serve (request 1 0 0)).responder.replies = 1 ∧
      ((joined.serve (request 1 0 0)).link.queue.map fun f => f.payload) =
        [[9, 0, 0, 0, 0x3A, 0x17, 0, 0x40, 1, 1, 12, 1]] := by
  decide +kernel

/-- The lengths of the seventeen records. -/
theorem test_record_lengths :
    ((List.range 18).map fun n => (running.serviceRecord n).map List.length) =
      [some 20, some 49, some 20, some 30, some 30, some 28, some 29, some 32, some 36, some 28, some 33,
        some 33, some 100, some 46, some 41, some 133, some 256, none] := by
  decide +kernel

/-! ### The lean and the budget, from the worked cases -/

/-- The three kinematic examples of R59 and R60, and the median of R64. -/
theorem test_lean_examples :
    kinematicCandidate (some 165) (some 2000) = some 3041 ∧
      kinematicCandidate (some (-212)) (some 1837) = some (-3469) ∧
      selectLean (some (-2252)) (some (-2550)) (some (-2552)) 4500 = (-2550, .full) ∧
      selectLean (some 2000) (some (-2000)) none 4500 = (2000, .pair) := by decide +kernel

/-- R84's table and the built-in case A: the grip of band 6 in TOUR, the lateral use and the allowance. -/
theorem test_budget_examples :
    effectiveGrip 1085 0 768 (-2) = 745 ∧ effectiveGrip 205 (-512) 768 (-2) = 205 ∧
      lateralUseOf 3041 = 600 ∧ allowanceOf 1126 600 = 952 ∧ allowanceOf 600 600 = 0 := by decide +kernel

/-! ### Witnesses: the hypotheses of each statement are met

Each theorem below names the statement it is for. A statement about every state or operand without a hypothesis
has none. -/

theorem test_witness_StepRunsTheFrontCommand :
    (joined.setPending [.mediumIdle 1, .powerOn]).pending = .mediumIdle 1 :: [.powerOn] := rfl

/-- A timer that runs out now is due; one that runs out a tenth of a millisecond later is not. -/
theorem test_witness_EmptyQueueTakesTheDueTimer :
    (silent.setNow 5000).pending = [] ∧
      (∃ d ∈ (silent.setNow 5000).runningTimers, d.1 ≤ 5000 ∧
        ∀ e ∈ (silent.setNow 5000).runningTimers, d.1 < e.1 ∨ e = d) ∧
      ∀ d ∈ (silent.setNow 4999).runningTimers, (silent.setNow 4999).now < d.1 := by decide

theorem test_witness_PowerOnRestartsThePart :
    joined.pageInProgress = none ∧ (serving (some (.pageBurst 0))).pageInProgress = some 0 ∧
      (serving (some (.pageWait 3 7))).pageInProgress = some 3 := by decide

theorem test_witness_ReadBurstsFillTheImage :
    State.reset.loader.phase = .loading 0 ∧ State.reset.loader.readImage.wf ∧
      (State.reset.setLoader { Loader.initial with phase := .loading 2 }).loader.phase = .loading 2 ∧
      (serving (some (.readBack 2))).loader.phase = .running ∧
      (serving (some (.readBack 2))).responder.store = some ⟨.readBack 2, 9, 0, 0⟩ ∧
      (serving (some (.readBack 2))).loader.readImage.wf ∧
      (ran (.readBurstEnd 5 none) State.reset).now < 6 := by decide +kernel

set_option maxRecDepth 100000 in
/-- Three bursts have ended; the image read so far requires no entry, or is erased. -/
theorem test_witness_LoadCompletionStartsTheBlocks :
    let s := fun image => (State.reset.setMemory image).setLoader
      { Loader.initial with phase := .loading 3, readImage := image }
    (s []).loader.phase = .loading 3 ∧ (s []).blocksAtPowerOn ∧ (s []).loader.readImage.wf ∧
      (s plainImage).blocksAtPowerOn ∧ (s plainImage).loader.readImage.wf := by
  refine ⟨rfl, ?_, by decide, ?_, by decide +kernel⟩ <;>
    exact ⟨rfl, fun e => by cases e <;> rfl, rfl, rfl, rfl, rfl, rfl, rfl, rfl, fun c => by cases c <;> rfl,
      rfl, rfl, rfl, fun f => by cases f <;> rfl, rfl, rfl, rfl, rfl, rfl, rfl, rfl, rfl, rfl, rfl, rfl, rfl,
      rfl, rfl, rfl, rfl⟩

set_option maxRecDepth 100000 in
/-- An erased image and one of a wrong format are rejected, and the plain image is accepted and clamped. -/
theorem test_witness_EveryImageGivesAProfileInRange :
    imageRejected [] = true ∧ imageRejected (withCode [(0, 2)]) = true ∧ imageRejected plainImage = false ∧
      imageClamped plainImage = true := by decide +kernel

/-- A STORE_PROFILE that begins a store; a done report exactly 15 ms after the burst, the first and the last page,
both link states that take the reply, and a pending image that agrees with what was read, or differs in one byte. -/
theorem test_witness_StoreRunsThroughItsStages :
    (request 3 0 0).length = 10 ∧ ((request 3 0 0).getD 0 0).toNat = (serving none).profile.ownStation ∧
      (request 3 0 0).getD 3 0 = 3 ∧ (serving none).responder.store = none ∧
      ((request 3 0 0).getD 2 0).toNat = (serving none).profile.serviceCode ∧
      (serving none).responder.windowEnds.isSome = true ∧ (serving none).responder.pendingImage.wf ∧
      (serving (some (.pageBurst 0))).responder.store = some ⟨.pageBurst 0, 9, 0, 0⟩ ∧
      (serving (some (.pageWait 2 0))).responder.store = some ⟨.pageWait 2 0, 9, 0, 0⟩ ∧
      (serving (some (.pageWait 2 0))).now + 150 ≤ 0 + 150 ∧ (serving (some (.pageWait 2 0))).memory.wf ∧
      (serving (some (.pageWait 3 0))).responder.store = some ⟨.pageWait 3 0, 9, 0, 0⟩ ∧
      (serving (some (.pageWait 3 0))).link.state = .joined ∧
      (serving (some (.pageWait 3 0))).link.queue = [] ∧
      (serving (some (.readBack 3))).responder.store = some ⟨.readBack 3, 9, 0, 0⟩ ∧
      (serving (some (.readBack 3))).loader.readImage.wf ∧
      (ran (.storeReadbackComplete 5 none) (serving (some (.readBack 3)))).responder.failedStores = 0 ∧
      (ran (.storeReadbackComplete 5 (some (List.replicate 64 0)))
        (serving (some (.readBack 3)))).responder.failedStores = 1 := by decide +kernel

/-- The fallback profile lies in its ranges. -/
theorem running_inRange : running.profile.inRange := by
  refine ⟨by decide, by decide, by unfold within; decide, by decide, by decide, by unfold within; decide,
    by decide, by unfold within; decide, by unfold within; decide, by unfold within; decide,
    by unfold within; decide, by unfold within; decide, by decide, by unfold within; decide, by decide,
    by unfold within; decide, fun m => ?_, fun e => ?_⟩
  · cases m <;> (unfold ModeProfile.inRange within; decide)
  · cases e <;> (unfold within; decide)

/-- A profile in its ranges, for the clamps that keep it; a row of each of its two lists. -/
theorem test_witness_ClampsKeepAnInRangeProfile :
    running.profile.inRange ∧ running.profile.loadTable[3]? = some ⟨210, 720, 563⟩ ∧
      running.profile.gripMap[13]? = some ⟨1004, 67⟩ :=
  ⟨running_inRange, rfl, rfl⟩

theorem test_witness_StoresAndProfileStaySound :
    let s := (serving (some (.pageWait 2 0))).setPending [.storePageDone 150]
    s.storesWf ∧ s.profile.inRange ∧ ∃ t, step s = .next t :=
  ⟨by unfold State.storesWf; decide, running_inRange, _, rfl⟩

/-- Requests for each clause: short, for another station, of kind 0 and 6, during a store, with a wrong code, to
another record than 16, at an odd offset, with the window closed, of kind 4 and 5; and READs of record 16 and 17,
at the last offset of record 0 and past it. -/
theorem test_witness_RequestsAreJudgedInStages :
    (request 1 0 0).length = 10 ∧ ((request 1 0 0).getD 0 0).toNat = joined.profile.ownStation ∧
      (List.take 9 (request 1 0 0)).length ≠ 10 ∧
      (((request 1 0 0).set 0 13).getD 0 0).toNat ≠ joined.profile.ownStation ∧
      ((request 0 0 0).getD 3 0).toNat = 0 ∧ 5 < ((request 6 0 0).getD 3 0).toNat ∧
      (serving (some (.pageBurst 0))).responder.store.isSome = true ∧
      (serving none).responder.store = none ∧
      (((request 5 0 0).set 2 1).getD 2 0).toNat ≠ joined.profile.serviceCode ∧
      ((request 2 16 254).getD 2 0).toNat = joined.profile.serviceCode ∧
      joined.responder.windowEnds = none ∧ (request 2 16 254).getD 4 0 = 16 ∧
      ((request 2 16 254).getD 5 0).toNat % 2 = 0 ∧ (request 2 15 0).getD 4 0 ≠ 16 ∧
      ((request 2 16 253).getD 5 0).toNat % 2 = 1 ∧ ((request 4 0 0).getD 3 0).toNat = 4 ∧
      ((request 5 0 0).getD 3 0).toNat = 5 ∧ (serving none).responder.windowEnds = some 100000 ∧
      (serving (some (.pageWait 3 0))).responder.store = some ⟨.pageWait 3 0, 9, 0, 0⟩ ∧
      (serving (some (.readBack 0))).responder.store = some ⟨.readBack 0, 9, 0, 0⟩ ∧
      ((request 1 17 0).getD 4 0).toNat = 17 ∧
      ((joined.serviceRecord 0).map fun r => decide (19 < r.length ∧ r.length ≤ 20)) = some true := by
  decide +kernel

theorem test_witness_WriteMaskedChangesOneWord :
    let s := serving none
    let p := request 2 16 254
    p.length = 10 ∧ (p.getD 0 0).toNat = s.profile.ownStation ∧ p.getD 3 0 = 2 ∧ s.responder.store = none ∧
      (p.getD 2 0).toNat = s.profile.serviceCode ∧ p.getD 4 0 = 16 ∧ (p.getD 5 0).toNat % 2 = 0 ∧
      s.responder.windowEnds.isSome = true ∧ s.responder.pendingImage.wf := by decide

/-- The front speed at 1.00 m/s and just below it. -/
theorem test_witness_TheWindowCloses :
    (serving none).responder.windowEnds = some 100000 ∧
      (speeds 100 100 joined).topics.frontSpeed = some 100 ∧
      (speeds 99 99 joined).topics.frontSpeed = some 99 ∧ joined.topics.frontSpeed = none := by decide

/-- The longest and the shortest frame, with the highest topic and sender. -/
theorem test_witness_SentFramesAreReadBack :
    (Frame.mk 1023 31 15 (List.replicate 12 0)).wellFormed = true ∧
      (Frame.mk 0 0 0 []).wellFormed = true := by decide

theorem test_witness_StuffingBreaksEveryRun :
    let f := Frame.mk 0 0 0 []
    (encodeFrame f).length = 38 ∧ 32 + 6 ≤ (encodeFrame f).length := by decide +kernel

theorem test_witness_FramesStartAtIdle :
    let s := joined.setLink { joined.link with queue := fourWaiting }
    s.link.state = .joined ∧ s.link.wire = none ∧ s.link.awaitingIdle = false ∧ s.link.queue = fourWaiting ∧
      (sending [] 0).link.wire = some (txFrame .driveLimit 7) ∧ s.link.inOrder := by
  refine ⟨rfl, rfl, rfl, rfl, rfl, ?_⟩
  unfold Link.inOrder
  decide

/-- A key one below the own one, with a newer frame waiting, with three others waiting and with four. -/
theorem test_witness_LostArbitrationReturnsTheFrame :
    (sending [] 0).link.wire = some (txFrame .driveLimit 7) ∧
      1291 < 32 * (txFrame .driveLimit 7).topic.number + (sending [] 0).profile.ownStation ∧
      (sending (txFrame .driveLimit 8 :: fourWaiting.take 3) 2).link.inOrder ∧
      (∀ g ∈ fourWaiting, g.topic ≠ .driveLimit) ∧ (sending (fourWaiting.take 3) 2).link.inOrder ∧
      (sending fourWaiting 2).link.inOrder ∧ (sending fourWaiting 2).link.queue.length = 4 := by
  unfold Link.inOrder
  decide

theorem test_witness_FailedFramesCountTowardsTheMute :
    (sending [] 14).link.wire = some (txFrame .driveLimit 7) ∧ (sending [] 14).link.state = .joined ∧
      (sending [] 14).link.failures < 15 ∧ (sending [] 14).conditionActive .stationClash = false := by
  decide

/-- Fifteen failures, the dropped count at its maximum. -/
theorem test_witness_SixteenthFailureMutesTheLink :
    let s := (sending fourWaiting 15).setLink
      { (sending fourWaiting 15).link with
        counters := { Link.initial.counters with dropped := 65535 } }
    s.link.wire = some (txFrame .driveLimit 7) ∧ s.link.state = .joined ∧ s.link.failures = 15 ∧
      s.link.counters.dropped ≤ 65535 := by decide

/-- The frame on the wire is awaited by the publisher, with STATION_CLASH and ENGINE_SILENT inactive and a list that
takes it, another frame awaited beside it; or nothing is; a status frame is of no consumer. -/
theorem test_witness_DeliveredFramesEnterTheEchoLists :
    let s := (sending [] 2).setPublisher
      { Publisher.initial with awaited := [⟨.driveLimit, 7, .drive 787⟩] }
    s.link.wire = some (txFrame .driveLimit 7) ∧ (txFrame .driveLimit 7).topic = limitTopic .engine ∧
      (s.publisher.awaited.find? fun a => a.topic == TxTopic.driveLimit && a.seq == (7 : Seq)) =
        some ⟨.driveLimit, 7, .drive 787⟩ ∧
      s.conditionActive .stationClash = false ∧
      (s.conditionActive .engineSilent = false ∧
        ((ran (.ackSlotRead 3 false true) s).publisher.track .engine).status = .following) ∧
      (sending [] 2).publisher.awaited = [] ∧
      ¬((AwaitedLimit.mk .driveLimit 8 (.drive 1)).topic = (txFrame .driveLimit 7).topic ∧
        (AwaitedLimit.mk .driveLimit 8 (.drive 1)).seq = (txFrame .driveLimit 7).seq) ∧
      (txFrame .ltStatus 3).topic ≠ limitTopic .engine ∧
      (txFrame .ltStatus 3).topic ≠ limitTopic .brake := by decide

set_option maxRecDepth 100000 in
/-- The built-in profile requires entries; the plain image requires none. -/
theorem test_witness_MuteAndJoinWaitRunOut :
    muted.link.state = .muted ∧ muted.link.muteEnds = some 2000 ∧ silent.link.state = .silent ∧
      silent.link.joinWaitEnds = some 5000 ∧ (muted.binding .wheelSpeeds).required = true ∧
      (∀ e ∈ EntryName.all,
        ((muted.setLoader { muted.loader with profile := profileOf plainImage }).binding e).required =
          false) := by decide +kernel

/-- A start bit with idle after it fails the header check; length 13 with a right header check; a payload bit turned
over; the own station as the sender of the last two; and STATION_CLASH inactive and active. -/
theorem test_witness_DamagedFramesAreDiscarded :
    joined.link.hears = true ∧ parseFrame [false] = .badHeader ∧
      parseFrame (heard 20 2 1 (List.replicate 13 0)) = .badLength 2 ∧ 2 ≠ joined.profile.ownStation ∧
      parseFrame ((heard 20 2 1 [0x07, 0xD0, 0x08, 0xF2]).set 46 true) = .badPayload 2 ∧
      parseFrame (heard 20 12 1 (List.replicate 13 0)) = .badLength 12 ∧ 12 = joined.profile.ownStation ∧
      parseFrame ((heard 20 12 1 [0x07, 0xD0, 0x08, 0xF2]).set 46 true) = .badPayload 12 ∧
      joined.conditionActive .stationClash = false ∧
      (joined.setCondition .stationClash true).link.hears = true ∧
      (joined.setCondition .stationClash true).conditionActive .stationClash = true := by
  decide +kernel

/-- A bound topic, the reset topic, the request topic and one that nothing takes; the own station as the sender; a
part that is inactive, one that sends, and one that waits for idle. -/
theorem test_witness_IntactFramesAreHandedOver :
    joined.link.hears = true ∧
      parseFrame (heard 20 2 1 [0x07, 0xD0, 0x08, 0xF2]) = .good ⟨20, 2, 1, [0x07, 0xD0, 0x08, 0xF2]⟩ ∧
      2 ≠ joined.profile.ownStation ∧ (joined.boundEntries 20) = [.wheelSpeeds] ∧
      joined.boundEntries 10 = [] ∧ joined.boundEntries 950 = [] ∧ joined.boundEntries 951 = [] ∧
      parseFrame (heard 10 6 0 [1]) = .good ⟨10, 6, 0, [1]⟩ ∧
      parseFrame (heard 950 31 0 (request 1 0 0)) = .good ⟨950, 31, 0, request 1 0 0⟩ ∧
      parseFrame (heard 951 3 0 []) = .good ⟨951, 3, 0, []⟩ ∧
      parseFrame (heard 951 12 0 []) = .good ⟨951, 12, 0, []⟩ ∧ 12 = joined.profile.ownStation ∧
      running.link.state = .inactive ∧
      (sending [] 0).link.wire.isSome = true ∧
      (joined.setLink { joined.link with awaitingIdle := true }).link.awaitingIdle = true := by
  decide +kernel

/-- The four link states, and a queue that holds the topic, three others, and four others. -/
theorem test_witness_OffersTakeTheNextSequence :
    running.link.inOrder ∧ running.link.state = .inactive ∧ muted.link.inOrder ∧ muted.link.state = .muted ∧
      silent.link.inOrder ∧ silent.link.state = .silent ∧
      (sending (txFrame .driveLimit 8 :: fourWaiting.take 3) 0).link.inOrder ∧
      (sending (fourWaiting.take 3) 0).link.inOrder ∧ (sending fourWaiting 0).link.inOrder ∧
      (∀ g ∈ fourWaiting, g.topic ≠ .driveLimit) := by
  refine ⟨?_, rfl, ?_, rfl, ?_, rfl, ?_, ?_, ?_, by decide⟩ <;> (unfold Link.inOrder; decide)

theorem test_witness_LinkStaysInOrder :
    let s := (sending fourWaiting 15).setPending [.ackSlotRead 1 true true]
    s.linkInOrder ∧ ∃ t, step s = .next t := by
  refine ⟨?_, _, rfl⟩
  unfold State.linkInOrder Link.inOrder
  decide

/-- A frame of the wrong length, one of the wrong sender over 2 and over 3 intruders, and a repeated sequence. -/
theorem test_witness_EntriesDiscardByLengthSenderSequence :
    [(0 : Byte)].length ≠ payloadLength .wheelSpeeds ∧
      (List.replicate 4 (0 : Byte)).length = payloadLength .wheelSpeeds ∧
      3 ≠ (joined.binding .wheelSpeeds).sender ∧ 2 = (joined.binding .wheelSpeeds).sender ∧
      (withEntry .wheelSpeeds { Entry.initial with intruders := 3 } joined).topics.wheelSpeeds.intruders = 3 ∧
      (withEntry .wheelSpeeds { Entry.initial with intruders := 2 } joined).topics.wheelSpeeds.intruders ≠ 3 ∧
      (speeds 0 0 joined).topics.wheelSpeeds.freshness = .fresh ∧
      (speeds 0 0 joined).topics.wheelSpeeds.lastSeq = some 3 := by decide

/-- A part whose conditions agree with its blocks. -/
theorem running_conditionsTrue : (running.setLoader { running.loader with fallback := false }).conditionsTrue := by
  refine ⟨by decide, by decide, by decide, by decide, by decide, by decide, fun f => ?_⟩
  cases f <;> decide

/-- A first frame, one after a gap over a FRESH entry, the last required one in a SILENT and in a JOINED part, one
with another still missing in a SILENT part, a first one in a MUTED and in an inactive part; an
entry heard before and not STALE; the latch OPEN and LATCHED, and the rates FRESH and NEVER. -/
theorem test_witness_EntriesAcceptNewFrames :
    let s := withEntry .inertialRates (heldEntry []) (withEntry .engineState (heldEntry [])
      (withEntry .brakeState (heldEntry []) silent))
    (List.replicate 4 (0 : Byte)).length = payloadLength .wheelSpeeds ∧
      2 = (joined.binding .wheelSpeeds).sender ∧ joined.topics.wheelSpeeds.freshness = .never ∧
      (speeds 0 0 joined).topics.wheelSpeeds.freshness = .fresh ∧
      (speeds 0 0 joined).topics.wheelSpeeds.lastSeq ≠ some 5 ∧
      (speeds 0 0 joined).topics.wheelSpeeds.missed ≤ 65535 ∧
      s.topics.wheelSpeeds.heard = false ∧ s.link.state = .silent ∧
      (∀ e ∈ EntryName.all, (s.binding e).required = true →
        e = .wheelSpeeds ∨ (s.topics.get e).heard = true) ∧
      (s.setLink Link.initial).topics = s.topics ∧ (s.setLink joined.link).link.state = .joined ∧
      ((silent.binding .brakeState).required = true ∧
        ((speeds 0 0 silent).topics.get .brakeState).heard = false) ∧
      muted.topics.wheelSpeeds.heard = false ∧ muted.link.state ≠ .silent ∧ running.link.state ≠ .joined ∧
      (speeds 0 0 joined).topics.wheelSpeeds.heard = true ∧ joined.selector.latch = .opened ∧
      (joined.setSelector { Selector.initial with latch := .latched }).selector.latch = .latched ∧
      s.topics.inertialRates.freshness = .fresh ∧ joined.topics.inertialRates.freshness = .never ∧
      (running.setLoader { running.loader with fallback := false }).conditionsTrue :=
  ⟨by decide, by decide, by decide, by decide, by decide, by decide, by decide, by decide, by decide, rfl,
    rfl, ⟨by decide, rfl⟩, rfl, by decide, by decide, by decide, rfl, rfl, rfl, rfl, running_conditionsTrue⟩

theorem test_witness_FreshEntriesGoLate :
    ((speeds 0 0 joined).topics.get .wheelSpeeds).freshness = .fresh ∧
      ((speeds 0 0 joined).topics.get .wheelSpeeds).acceptedAt = some 0 := by decide

/-- Every entry can be LATE, with the latch OPEN or LATCHED. -/
theorem test_witness_LateEntriesGoStaleWithNotice :
    (∀ e ∈ EntryName.all,
      ((withEntry e { heldEntry [] with freshness := .late } joined).topics.get e).freshness = .late ∧
        ((withEntry e { heldEntry [] with freshness := .late } joined).topics.get e).acceptedAt = some 0) ∧
      joined.selector.latch = .opened ∧
      (joined.setSelector { Selector.initial with latch := .latched }).selector.latch = .latched := by
  decide

theorem test_witness_EntriesStayInOrder :
    let s := (speeds 2000 9000 joined).setPending [.mediumIdle 1]
    s.entriesInOrder ∧ ∃ t, step s = .next t := by
  refine ⟨fun e => ?_, _, rfl⟩
  cases e
  case wheelSpeeds =>
    refine ⟨rfl, rfl, .cons ?_ (.cons ?_ .nil)⟩ <;>
      (intro v h; cases h; decide)
  all_goals exact ⟨rfl, rfl, rfl⟩

/-- The dash is station 6; a second byte, another sender or another scope makes the message invalid. A limit frame
awaited in a link in order. -/
theorem test_witness_ChassisResetReachesFiveBlocks :
    let valid (f : Frame) : Bool :=
      f.payload.length == 1 && f.sender == (joined.binding .dashSelect).sender && f.payload[0]? == some 1
    valid ⟨10, 6, 0, [1]⟩ = true ∧ valid ⟨10, 5, 0, [1]⟩ = false ∧ valid ⟨10, 6, 0, [2]⟩ = false ∧
      valid ⟨10, 6, 0, [1, 0]⟩ = false ∧ (sending [] 2).link.inOrder ∧
      (⟨.driveLimit, 7, .drive 787⟩ : AwaitedLimit) ∈ ((sending [] 2).setPublisher
        { Publisher.initial with awaited := [⟨.driveLimit, 7, .drive 787⟩] }).publisher.awaited := by
  unfold Link.inOrder
  decide

/-- The latch OPEN and LATCHED with the front speed at 5.00 and 1.00 m/s and just below, with the timer running since
the same stale episode, since an earlier one, and stopped; and the expiry with the speeds STALE and not. -/
theorem test_witness_LatchFollowsTheFrontSpeed :
    let latched (timer : Option Nat) (noted : Nat) (s : State) : State :=
      s.setSelector { s.selector with latch := .latched, atRestEnds := timer, notedStale := noted }
    joined.topics.frontSpeed = none ∧ (speeds 500 0 joined).topics.frontSpeed = some 500 ∧
      (speeds 499 0 joined).topics.frontSpeed = some 499 ∧ joined.selector.latch = .opened ∧
      (latched none 0 (speeds 100 0 joined)).topics.frontSpeed = some 100 ∧
      (latched none 0 (speeds 99 0 joined)).topics.frontSpeed = some 99 ∧
      (latched (some 20000) 0 (speeds 99 0 joined)).selector.atRestEnds.isSome = true ∧
      (latched (some 20000) 0 (speeds 99 0 joined)).selector.notedStale =
        (speeds 99 0 joined).topics.wheelSpeeds.staleEpisodes ∧
      (latched (some 20000) 1 (speeds 99 0 joined)).selector.notedStale ≠
        (speeds 99 0 joined).topics.wheelSpeeds.staleEpisodes ∧
      (latched (some 20000) 0 (speeds 99 0 joined)).topics.wheelSpeeds.freshness ≠ .stale ∧
      (latched (some 20000) 0 joined).estimator.latest = none := by decide

/-- The three sources; 105 kg lies as far from SOLO as from SOLO_LUGGAGE. -/
theorem test_witness_LoadRecordTakesTheFirstSource :
    joined.profile.loadTable.length = 4 ∧
      (withEntry .suspensionState (heldEntry [some 105]) joined).topics.addedMass = some 105 ∧
      (withEntry .suspensionState (heldEntry [some 105]) joined).loadRecord = ⟨495, 670, 543, .suspension⟩ ∧
      joined.topics.addedMass = none ∧
      (withEntry .dashSelect (heldEntry [some 1, some 3, some 0]) joined).topics.loadSetting = some 3 ∧
      joined.topics.loadSetting = none := by decide

/-- A request for what is in force and for another mode, under a loaded and the fallback profile; a demand at the
drive floor of 40 and above it, after a step that left a state that adopts, one that does not, and after none. -/
theorem test_witness_RequestsWaitForAQuietMoment :
    let dash (m o : Int) (s : State) : State := withEntry .dashSelect (heldEntry [some m, some 0, some o]) s
    let loaded := joined.setLoader { joined.loader with fallback := false }
    let asked (demand : Int) (state : DriveState) : State :=
      ((engine demand 0 loaded).setSelector { Selector.initial with request := some ⟨.road, 1⟩ }).setDrive
        { Drive.initial with state := .passive, lastState := some state }
    joined.topics.dashMode = none ∧ loaded.loader.fallback = false ∧ joined.loader.fallback = true ∧
      (dash 1 0 joined).topics.dashOffset = some 0 ∧ (dash 1 0 joined).topics.dashMode = some 1 ∧
      Mode.ofNumber 1 = .wet ∧ (dash 1 1 joined).topics.dashOffset = some 1 ∧
      (dash 1 0 loaded).topics.dashMode = some 1 ∧ (dash 1 0 loaded).topics.dashOffset = some 0 ∧
      Mode.ofNumber 1 = (dash 1 0 loaded).selector.mode ∧ Mode.ofNumber 2 ≠ (dash 2 0 loaded).selector.mode ∧
      (asked 40 .tracking).selector.request = some ⟨.road, 1⟩ ∧
      (asked 40 .tracking).topics.riderDemand = some 40 ∧
      40 ≤ (asked 40 .tracking).modeProfile.driveFloor ∧
      (asked 41 .tracking).modeProfile.driveFloor < 41 ∧
      (asked 40 .ramping).drive.lastState.getD .passive = .ramping ∧
      joined.drive.lastState.getD .passive = .passive ∧
      joined.topics.riderDemand = none := by decide

/-- The greatest speed and yaw rate. -/
theorem test_witness_LateralRatioIsTheExactFloor : 9000 ≤ 9000 ∧ 1500 ≤ 1500 ∧ lateralRatio 9000 1500 = 24594 := by
  decide +kernel

/-- The ratio at the last table entry and just below it; the least speed of the kinematic candidate. -/
theorem test_witness_LeanMagnitudeFollowsTheTangentTable :
    2196 ≤ 2196 ∧ leanOfRatio 2196 = 6500 ∧ 2195 < 2196 ∧ leanOfRatio 2195 = 6498 ∧ 300 ≤ 300 := by
  decide +kernel

/-- Two candidates of equal and of unequal magnitude. -/
theorem test_witness_SelectionByNumberOfCandidates :
    (-2000 : Int).natAbs ≤ (2000 : Int).natAbs ∧ (1999 : Int).natAbs < (-2000 : Int).natAbs := by decide

/-- A LOST record and one of another status, a spread over 800 and at it, with and without a load record; the front
speed at 3.00 m/s and just below, the pod's confidence at 50 and just below, a roll rate and a base, and none. -/
theorem test_witness_EstimatesMakeOneRecord :
    (joined.leanRecord .a).status = .lost ∧ ((speeds 2000 2000
        (withEntry .inertialRates (heldEntry [some 165, none]) joined)).leanRecord .a).status = .single ∧
      spreadOf (some 801) (some 0) none = some 801 ∧ spreadOf (some 800) (some 0) none = some 800 ∧
      joined.selector.load = none ∧
      (joined.setSelector { Selector.initial with load := some ⟨480, 640, 532, .default⟩ }).selector.load =
        some ⟨480, 640, 532, .default⟩ ∧
      (joined.setEstimator { Estimator.initial with base := some ⟨3041, 5⟩ }).estimator.base =
        some ⟨3041, 5⟩ ∧ joined.estimator.base = none ∧
      (withEntry .inertialRates (heldEntry [some 165, some (-40)]) joined).topics.yawRate = some 165 ∧
      (withEntry .inertialRates (heldEntry [some 165, some (-40)]) joined).topics.rollRate = some (-40) ∧
      joined.topics.yawRate = none ∧ joined.topics.rollRate = none ∧ joined.topics.podAngle = none ∧
      (speeds 300 300 joined).topics.frontSpeed = some 300 ∧
      (speeds 299 299 joined).topics.frontSpeed = some 299 ∧
      (withEntry .inertialLean (heldEntry [some 300, some 50]) joined).topics.podAngle = some 300 ∧
      (withEntry .inertialLean (heldEntry [some 300, some 50]) joined).topics.podConfidence = some 50 ∧
      (withEntry .inertialLean (heldEntry [some 300, some 49]) joined).topics.podConfidence = some 49 := by
  decide +kernel

/-- A lean record of the greatest lean to the left. -/
def leaned : State := joined.setEstimator { Estimator.initial with latest := some (leaning (-6500)) }

theorem leaned_inRange : leaned.leanInRange := by
  refine ⟨fun r h => ?_, ?_, by decide⟩
  · cases h; unfold LeanRecord.inRange; decide
  · intro b h; cases h

theorem leaned_entries : leaned.entriesInOrder := by
  intro e; cases e <;> exact ⟨rfl, rfl, rfl⟩

theorem test_witness_LeanStaysInRange :
    let s := leaned.setPending [.mediumIdle 1]
    s.profile.inRange ∧ s.entriesInOrder ∧ s.leanInRange ∧ ∃ t, step s = .next t :=
  ⟨running_inRange, leaned_entries, leaned_inRange, _, rfl⟩

/-- The last band, at the floor and above it, marked and not; a relief that is due. -/
theorem test_witness_CorrectionsFallAndRise :
    let g : GripUnit :=
      { GripUnit.initial with
        table := List.replicate 12 ⟨0, false⟩ ++ [⟨-4, false⟩, ⟨-512, true⟩]
        reliefEnds := some 10000 }
    let s := joined.setGrip g
    s.grip.table.length = 14 ∧ 13 < 14 ∧ (s.grip.entry 13).corr = -512 ∧ (s.grip.entry 12).corr ≠ -512 ∧
      s.grip.reliefEnds = some 10000 ∧ s.grip.table[13]? = some ⟨-512, true⟩ ∧
      s.grip.table[12]? = some ⟨-4, false⟩ ∧ s.grip.table[0]? = some ⟨0, false⟩ := by decide

theorem test_witness_CorrectionsStayInRange :
    let s := joined.setPending [.mediumIdle 1]
    s.grip.tableInRange ∧ ∃ t, step s = .next t := by
  refine ⟨?_, _, rfl⟩
  unfold GripUnit.tableInRange
  decide

/-- The greatest lean and the greatest grip, a lateral use at the grip and just below it; the records of a budget,
with an acceleration below 0, of 0 and absent. -/
theorem test_witness_BudgetFollowsItsSevenStages :
    let s := leaned.setSelector { Selector.initial with load := some ⟨800, 1200, 768, .default⟩ }
    let pulls (a : Int) : Option Int := (withEntry .inertialAccel (heldEntry [some a]) s).topics.longAccel
    s.profile.inRange ∧ s.estimator.latest = some (leaning (-6500)) ∧
      s.selector.load = some ⟨800, 1200, 768, .default⟩ ∧ 6500 ≤ 6500 ∧ 1536 ≤ 1536 ∧ 1535 < 1536 ∧
      pulls (-1) = some (-1) ∧ pulls 0 = some 0 ∧ s.topics.longAccel = none ∧
      (∃ b, s.drawBudget.grip.latest = some b ∧ b.rearLight = false) ∧
      ∃ b, (withEntry .inertialAccel (heldEntry [some (-2000)]) s).drawBudget.grip.latest = some b ∧
        b.rearLight = true :=
  ⟨running_inRange, rfl, rfl, by decide, by decide, by decide, by decide, by decide, by decide,
    ⟨_, rfl, by decide +kernel⟩, _, rfl, by decide +kernel⟩

theorem test_witness_BudgetStaysInRange :
    let s := (leaned.setSelector { Selector.initial with load := some ⟨800, 1200, 768, .default⟩ })
    let u := s.drawBudget.setPending [.mediumIdle 1]
    u.profile.inRange ∧ u.entriesInOrder ∧ u.leanInRange ∧ u.loadInRange ∧ u.budgetInRange ∧
      ∃ t, step u = .next t := by
  refine ⟨running_inRange, leaned_entries, leaned_inRange, fun r h => ?_, fun b h => ?_, _, rfl⟩
  · cases h; unfold LoadRecord.inRange within; decide
  · cases h; unfold BudgetRecord.inRange within; decide +kernel

/-- No budget and one of 20.1 ms; speeds absent; SILENT in a mode that permits the cut line and one that forbids it;
neutral, 2.99 m/s; and LATE speeds at 3.00 m/s over a budget of exactly 20.0 ms. -/
theorem test_witness_StepsThatMeasureNoSlip :
    let s := regulating .tracking (some 992) 0 992 2290
    let late := withEntry .wheelSpeeds
      { heldEntry [some 300, some 300] with freshness := .late } (s.setNow 200)
    s.drive.stepDue = some 0 ∧ joined.grip.latest = none ∧ 200 < (s.setNow 201).budgetAge (budget 992 420) ∧
      joined.topics.frontSpeed = none ∧ silent.link.state ≠ .joined ∧
      silent.modeProfile.cutPermission ≠ 0 ∧
      (silent.setSelector { Selector.initial with mode := .dynamic }).modeProfile.cutPermission = 0 ∧
      (withEntry .engineState (heldEntry [some 0, some 0, some 0, none]) s).topics.gear = some 0 ∧
      (speeds 299 299 s).topics.frontSpeed = some 299 ∧ late.drive.stepDue = some 0 ∧
      late.grip.latest = some (budget 992 420) ∧
      (late.setNow (max late.now 0)).budgetAge (budget 992 420) ≤ 200 ∧
      late.topics.wheelSpeeds.freshness = .late ∧ late.topics.frontSpeed = some 300 ∧
      late.topics.rearSpeed = some 300 ∧ late.topics.gear ≠ some 0 ∧
      late.link.state = .joined ∧ late.publisher.engine.status ≠ .silent ∧ late.drive.state ≠ .inhibited ∧
      muted.link.state ≠ .joined ∧ late.drive.inOrder := by
  unfold Drive.inOrder
  decide +kernel

/-- The hypotheses of the statement below on a state, its two speeds and its budget. -/
abbrev measures (s : State) (vf vr : Nat) (b : BudgetRecord) : Prop :=
  s.drive.stepDue = some 0 ∧ s.grip.latest = some b ∧ (s.setNow (max s.now 0)).budgetAge b ≤ 200 ∧
    s.topics.wheelSpeeds.freshness = .fresh ∧ s.topics.frontSpeed = some vf ∧ s.topics.rearSpeed = some vr ∧
    300 ≤ vf ∧ s.topics.gear ≠ some 0 ∧
    (s.link.state = .joined ∧ s.publisher.engine.status ≠ .silent ∨ s.modeProfile.cutPermission ≠ 0) ∧
    s.drive.working.isSome = s.drive.state.limits

/-- Every regulation state with the slip at its target of 102 and just above it, a hold count of 1 and 2, a delivered
torque and none, on the bus and on the cut line. -/
theorem test_witness_RegulationStepFollowsTheSlip :
    (regulating .tracking (some 992) 0 992 2200).publisher.engine.status ≠ .silent ∧
      muted.link.state ≠ .joined ∧
      measures ((regulating .tracking (some 992) 0 992 2200).setLink muted.link) 2000 2200 (budget 992 420) ∧
      (2200 - 2000) * 1024 / 2000 = 102 ∧ (2202 - 2000) * 1024 / 2000 = 103 ∧
      (regulating .tracking (some 992) 0 992 2200).topics.deliveredTorque = some 900 ∧
      (withEntry .engineState Entry.initial
        (regulating .tracking (some 992) 0 992 2202)).topics.deliveredTorque = none ∧
      (∀ x ∈ [(DriveState.passive, (none : Option Nat), 0), (.inhibited, none, 0), (.tracking, some 992, 0),
          (.cutting, some 787, 0), (.holding, some 688, 1), (.holding, some 688, 2), (.ramping, some 948, 0)],
        measures (regulating x.1 x.2.1 x.2.2 953 2200) 2000 2200 (budget 953 420) ∧
          measures (regulating x.1 x.2.1 x.2.2 953 2202) 2000 2202 (budget 953 420)) ∧
      measures (withEntry .engineState Entry.initial (regulating .tracking (some 992) 0 992 2202)) 2000 2202
        (budget 992 420) := by
  refine ⟨by decide, by decide, by decide +kernel, ?_⟩
  decide +kernel

theorem test_witness_WorkingLimitIsBounded :
    let s := regulating .ramping (some 948) 0 953 2100
    s.drive.stepDue.isSome = true ∧ s.drive.inOrder ∧ s.profile.inRange ∧
      ∃ t, exec .regulationStep s = .next t ∧ t.drive.working = some 953 ∧ s.drive.working = some 948 :=
  ⟨rfl, by unfold Drive.inOrder; decide, running_inRange, _, rfl, by decide +kernel, rfl⟩

/-- JOINED and SILENT, on the bus and on the cut line, with a rider demand above and at the limit and without one. -/
theorem test_witness_StepsHandOnTheirValues :
    let s := regulating .cutting (some 787) 0 953 2235
    let mute := s.setLink muted.link
    let ends (u : State) (state : DriveState) (path : DrivePath) (w : Nat) : Prop :=
      ∃ t, exec .regulationStep u = .next t ∧ t.drive.state = state ∧ t.drive.path = path ∧
        t.drive.working = some w
    let b := braking .engaged (some 534) 700 534 0 420
    s.drive.stepDue.isSome = true ∧ s.profile.inRange ∧ s.link.inOrder ∧ s.link.queue = [] ∧
      ends s .cutting .bus 688 ∧ ends mute .cutting .cutLine 688 ∧ mute.link.inOrder ∧
      mute.link.state ≠ .joined ∧ mute.topics.riderDemand = some 950 ∧
      (engine 688 0 mute).topics.riderDemand = some 688 ∧
      (withEntry .engineState Entry.initial mute).topics.riderDemand = none ∧
      b.brake.stepDue.isSome = true ∧ b.link.inOrder ∧ b.link.queue = [] ∧ b.link.state = .joined ∧
      (b.setLink silent.link).link.inOrder ∧ (b.setLink silent.link).link.state ≠ .joined := by
  refine ⟨rfl, running_inRange, ?_, rfl, ⟨_, rfl, by decide +kernel⟩, ⟨_, rfl, by decide +kernel⟩, ?_,
    by decide, by decide, by decide, by decide, rfl, ?_, rfl, rfl, ?_, by decide⟩ <;>
    (unfold Link.inOrder; decide)

theorem test_witness_ChannelsStayInOrder :
    let s := (regulating .holding (some 688) 2 953 2100).setPending [.regulationStep]
    s.profile.inRange ∧ s.drive.inOrder ∧ s.brake.front.inOrder ∧ s.brake.rear.inOrder ∧
      ∃ t, step s = .next t := by
  refine ⟨running_inRange, ?_, ?_, ?_, _, rfl⟩
  · unfold Drive.inOrder; decide
  · exact ⟨rfl, fun p h => by cases h⟩
  · exact ⟨rfl, fun p h => by cases h⟩

/-- Closed without a budget and with one of 20.1 ms; a demand of 5.0 bar and just below it, absent, with the ABS
acting; an applied pressure within 2.0 bar of the limit, just further off, and absent. -/
theorem test_witness_BrakeStepSupervisesEachWheel :
    let s := braking .engaged (some 534) 50 514 0 420
    s.brake.stepDue = some 0 ∧ joined.grip.latest = none ∧
      200 < (s.setNow 201).budgetAge (budget 900 420) ∧
      (s.setNow (max s.now 0)).budgetAge (budget 900 420) ≤ 200 ∧
      s.topics.brakeState.freshness = .fresh ∧ s.link.state = .joined ∧ s.publisher.brake.status ≠ .silent ∧
      s.topics.frontDemand = some 50 ∧ s.topics.frontAbs ≠ some true ∧ s.topics.frontApplied = some 514 ∧
      (braking .engaged (some 534) 49 0 0 420).topics.frontDemand = some 49 ∧
      joined.topics.frontDemand = none ∧
      (braking .engaged (some 534) 700 0 1 420).topics.frontAbs = some true ∧
      (braking .engaged (some 534) 700 503 0 420).topics.frontApplied = some 503 ∧
      joined.topics.frontApplied = none := by
  decide +kernel

/-- The two onsets at once, one, and none; a budget of band 2 and of band 1, and no budget. -/
theorem test_witness_AbsOnsetsSendNotices :
    let s (front rear : Int) (b : BudgetRecord) : State := brakes 700 500 front rear (drawn b joined)
    (s 1 1 (budget 900 420)).topics.frontAbs = some true ∧ (s 1 1 (budget 900 420)).topics.rearAbs = some true ∧
      (s 1 0 (budget 900 420)).topics.rearAbs = some false ∧
      (s 1 1 (budget 900 420)).brake.front.absMemory = false ∧
      2 ≤ { budget 900 420 with band := 2 }.band ∧ ¬2 ≤ { budget 900 420 with band := 1 }.band ∧
      joined.grip.latest = none := by decide

/-- The link JOINED, MUTED and with three frames waiting; a lean record and a budget in its ranges, and neither;
all three channels INHIBITED and not. -/
theorem test_witness_PeriodicFramesAreOffered :
    let s (l : State) : State :=
      (l.setPublisher { Publisher.initial with gripStateDue := some 200 }).setMonitor
        { Monitor.initial with ltStatusDue := some 1000 }
    let closed := joined.setMonitor
      { Monitor.initial with driveState := .inhibited, frontWheel := .inhibited, rearWheel := .inhibited }
    (s joined).link.inOrder ∧ (s muted).link.inOrder ∧
      (s (sending (fourWaiting.take 3) 0)).link.inOrder ∧
      (s (sending (fourWaiting.take 3) 0)).link.queue.length ≤ 3 ∧
      (s joined).publisher.gripStateDue = some 200 ∧ (s joined).monitor.ltStatusDue = some 1000 ∧
      (s joined).link.state = .joined ∧ (s muted).link.state = .muted ∧
      joined.estimator.latest = none ∧ leaned.estimator.latest = some (leaning (-6500)) ∧
      joined.grip.latest = none ∧ (drawn (budget 900 420) joined).grip.latest = some (budget 900 420) ∧
      (budget 900 420).inRange ∧ joined.monitor.driveState ≠ .inhibited ∧
      closed.monitor.driveState = .inhibited ∧ closed.monitor.frontWheel = .inhibited ∧
      closed.monitor.rearWheel = .inhibited := by
  refine ⟨?_, ?_, ?_, by decide, by decide, by decide, by decide, by decide, rfl, rfl, rfl, rfl, ?_, by decide,
    rfl, rfl, rfl⟩
  rotate_right
  · unfold BudgetRecord.inRange within; decide
  all_goals (unfold Link.inOrder; decide)

/-- The ENGINE list of the worked sequence at 35 ms: four entries, a delivery of a new and of a listed sequence, the
echoes 14 (newest), 9 (not listed) and 6 (8 behind the newest). -/
theorem test_witness_EchoListsDecideTheStatus :
    let track : Track :=
      { Track.initial with
        echoes := [⟨11, .drive 1, 200⟩, ⟨12, .drive 1, 250⟩, ⟨13, .drive 1, 300⟩, ⟨14, .drive 1, 350⟩] }
    (track.echoes.map EchoEntry.seq).Nodup ∧ track.echoes.length = 4 ∧
      (∀ x ∈ track.echoes, x.seq ≠ (15 : Seq)) ∧ (∃ x ∈ track.echoes, x.seq = (12 : Seq)) ∧
      8 ≤ (16 + (14 : Nat) - 6) % 16 ∧ (16 + (14 : Nat) - 9) % 16 < 8 ∧ isStray track.echoes 14 = false ∧
      isStray track.echoes 9 = true ∧ isStray [] 0 = true ∧
      (∀ st ∈ [ConsumerStatus.following, .lagging, .silent],
        { track with status := st, misses := 2, matches' := 3, absentRun := 2 }.status = st) := by decide

theorem test_witness_EchoDeadlinesCountMisses :
    let s := joined.setPublisher
      { Publisher.initial with engine := { Track.initial with echoes := [⟨7, .drive 787, 10⟩] } }
    (s.publisher.track .engine).echoes = ⟨7, .drive 787, 10⟩ :: [] := rfl

theorem test_witness_EchoListsStayInOrder :
    let s := ((joined.setPublisher
      { Publisher.initial with engine := { Track.initial with echoes := [⟨7, .drive 787, 0⟩] } }).setPending
        [.echoDeadlineExpiry .engine])
    s.linkInOrder ∧ s.tracksInOrder ∧ ∃ t, step s = .next t := by
  refine ⟨?_, ⟨fun c => ?_, fun h => absurd rfl h⟩, _, rfl⟩
  · unfold State.linkInOrder Link.inOrder; decide
  · cases c <;> (unfold Track.inOrder; decide)

/-- IDLE with a demand of 1 and of 0 on the cut line; a regulation period with the demand at its slots and above,
the line asserted, released with the slot's end ahead, and released with the end just reached; a test. -/
theorem test_witness_HandoversDriveTheCutLine :
    Generator.initial.run = none ∧ 1 ≤ 1 ∧ ¬1 ≤ 0 ∧
      (cutting .regulation 2 2 (some 60)).generator.run = some ⟨.regulation, 2, 0⟩ ∧
      (cutting .regulation 2 2 (some 60)).generator.asserted = true ∧
      (cutting .regulation 2 2 none).generator.asserted = false ∧ 119 < 0 + 4 * (24 / 8) * 10 ∧
      0 + 4 * (24 / 8) * 10 ≤ 120 ∧ (cutting .test 2 0 none).generator.run = some ⟨.test, 2, 0⟩ := by
  decide

theorem test_witness_CutPeriodsRunOut :
    (cutting .regulation 2 1 (some 60)).generator.assertionEnds = some 60 ∧
      (cutting .regulation 2 1 (some 60)).generator.run = some ⟨.regulation, 2, 0⟩ ∧
      (cutting .regulation 2 1 (some 60)).generator.latestDemand = 1 ∧
      (cutting .regulation 2 0 none).generator.latestDemand = 0 ∧
      (cutting .test 8 0 none).generator.run = some ⟨.test, 8, 0⟩ := by decide

/-- At 0.99 m/s the test is taken, at 1.00 m/s and in a regulation period it is not. -/
theorem test_witness_CutTestsNeedAStandingWheel :
    (speeds 99 0 joined).topics.frontSpeed = some 99 ∧ (speeds 99 0 joined).generator.run = none ∧
      (speeds 99 0 joined).generator.lastPath ≠ .cutLine ∧
      (speeds 100 0 joined).topics.frontSpeed = some 100 ∧
      (speeds 99 0 (cutting .regulation 1 1 none)).generator.run = some ⟨.regulation, 1, 0⟩ := by decide

/-- A period on the cut line at its expiry, and at a regulation step that keeps the path. -/
theorem test_witness_CutStaysOnItsPath :
    let s := (cutting .regulation 8 8 (some 240)).setDrive { Drive.initial with path := .cutLine }
    s.cutOnItsPath ∧ s.generator.lineSafe ∧ s.generator.asserted = true ∧
      (∃ t, step (s.setPending [.cutPeriodExpiry]) = .next t) ∧
      ∃ t, step (s.setPending [.regulationStep]) = .next t := by
  refine ⟨?_, ?_, rfl, ⟨_, rfl⟩, _, rfl⟩
  · unfold State.cutOnItsPath; decide
  · unfold Generator.lineSafe; decide

theorem test_witness_GeneratorStaysInOrder :
    let s := (cutting .regulation 8 8 (some 240)).setPending [.cutPeriodExpiry]
    s.profile.inRange ∧ s.generator.inOrder ∧ ∃ t, step s = .next t := by
  refine ⟨running_inRange, ⟨by unfold Generator.lineSafe; decide, fun r h => ?_, by decide⟩, _, rfl⟩
  cases h
  unfold within
  decide

theorem test_witness_MonitorStaysTrue :
    let s := (running.setLoader { running.loader with fallback := false }).setPending [.mediumIdle 1]
    s.copyTrue ∧ s.lampTrue ∧ s.linkInOrder ∧ s.conditionsTrue ∧ ∃ t, step s = .next t := by
  refine ⟨?_, ?_, ?_, running_conditionsTrue, _, rfl⟩
  · unfold State.copyTrue; decide
  · unfold State.lampTrue; decide
  · unfold State.linkInOrder Link.inOrder; decide

end Sys2Proof.Tests
end

section
/-! SUPPORT. The transmit queue: what a frame's insertion, an offer, a lost arbitration and a flush do to it, said
once, and that each keeps the link controller in order (R7, R10..R13, R17). -/

namespace Sys2Proof.Machine

theorem TxTopic.number_injective : Function.Injective TxTopic.number := by
  intro t u h
  cases t <;> cases u <;> first | rfl | exact absurd h (by decide)

/-! ### The queue -/

/-- The topic numbers of the waiting frames strictly rise (R10). -/
def inTopicOrder (q : List TxFrame) : Prop := q.Pairwise fun f g => f.topic.number < g.topic.number

theorem waitingOf_eq_none {q : List TxFrame} {t : TxTopic} :
    waitingOf q t = none ↔ ∀ g ∈ q, g.topic ≠ t := by
  simp [waitingOf]

/-- A waiting frame of a topic is found, since no other one of its topic waits. -/
theorem waitingOf_of_mem {q : List TxFrame} (hq : inTopicOrder q) {g : TxFrame} (hg : g ∈ q) :
    waitingOf q g.topic = some g := by
  induction q with
  | nil => simp at hg
  | cons x rest ih =>
    obtain ⟨hx, hrest⟩ := List.pairwise_cons.mp hq
    rcases List.mem_cons.mp hg with rfl | hg
    · simp [waitingOf]
    · have hne : x.topic ≠ g.topic := fun e => by have := hx g hg; rw [e] at this; omega
      simpa [waitingOf, hne] using ih hrest hg

theorem insertFrame_perm (f : TxFrame) (q : List TxFrame) : (insertFrame f q).Perm (f :: q) := by
  induction q with
  | nil => exact List.Perm.refl _
  | cons g rest ih =>
    simp only [insertFrame]
    split
    · exact List.Perm.refl _
    · exact (ih.cons g).trans (List.Perm.swap f g rest)

theorem length_insertFrame (f : TxFrame) (q : List TxFrame) : (insertFrame f q).length = q.length + 1 :=
  (insertFrame_perm f q).length_eq

theorem insertFrame_ne_nil (f : TxFrame) (q : List TxFrame) : insertFrame f q ≠ [] :=
  List.ne_nil_of_length_pos (by rw [length_insertFrame]; omega)

theorem insertFrame_inTopicOrder {f : TxFrame} {q : List TxFrame} (hq : inTopicOrder q)
    (hf : ∀ g ∈ q, g.topic ≠ f.topic) : inTopicOrder (insertFrame f q) := by
  induction q with
  | nil => exact List.pairwise_singleton _ _
  | cons g rest ih =>
    obtain ⟨hg, hrest⟩ := List.pairwise_cons.mp hq
    simp only [insertFrame]
    split
    · next hlt =>
      refine List.pairwise_cons.mpr ⟨fun x hx => ?_, hq⟩
      rcases List.mem_cons.mp hx with rfl | hx
      · exact hlt
      · exact hlt.trans (hg x hx)
    · next hge =>
      have hne : f.topic.number ≠ g.topic.number := fun e =>
        hf g List.mem_cons_self (TxTopic.number_injective e.symm)
      refine List.pairwise_cons.mpr ⟨fun x hx => ?_, ih hrest fun x hx => hf x (List.mem_cons_of_mem _ hx)⟩
      rcases List.mem_cons.mp ((insertFrame_perm f rest).mem_iff.mp hx) with rfl | hx
      · omega
      · exact hg x hx

/-- The last frame of a queue in topic order has the highest topic number. -/
theorem inTopicOrder.dropLast_lt {q : List TxFrame} (hq : inTopicOrder q) (hne : q ≠ []) :
    ∀ g ∈ q.dropLast, g.topic.number < (q.getLast hne).topic.number := by
  intro g hg
  rw [← List.dropLast_append_getLast hne] at hq
  exact (List.pairwise_append.mp hq).2.2 g hg _ (List.mem_singleton_self _)

theorem inTopicOrder.dropLast {q : List TxFrame} (hq : inTopicOrder q) : inTopicOrder q.dropLast :=
  List.Pairwise.sublist (List.dropLast_sublist q) hq

/-- The queue with the waiting frame of `f`'s topic replaced by `f` (R10). -/
def replaceFrame (f : TxFrame) (q : List TxFrame) : List TxFrame :=
  q.map fun (g : TxFrame) => if g.topic == f.topic then f else g

theorem replaceFrame_inTopicOrder {q : List TxFrame} (f : TxFrame) (hq : inTopicOrder q) :
    inTopicOrder (replaceFrame f q) := by
  have htopic : ∀ g : TxFrame, (if g.topic == f.topic then f else g).topic = g.topic := by
    intro g
    split
    · next h => exact (eq_of_beq h).symm
    · rfl
  refine List.pairwise_map.mpr (hq.imp fun {a b} hab => ?_)
  rw [htopic, htopic]
  exact hab

theorem replaceFrame_of_new {q : List TxFrame} {f : TxFrame} (h : ∀ g ∈ q, g.topic ≠ f.topic) :
    replaceFrame f q = q := by
  unfold replaceFrame
  rw [List.map_congr_left (g := id), List.map_id]
  intro g hg
  simp [h g hg]

/-- A replaced frame is the only one that leaves the queue. -/
theorem replaceFrame_perm {q : List TxFrame} {f g : TxFrame} (hq : inTopicOrder q) (hg : g ∈ q)
    (ht : g.topic = f.topic) : (replaceFrame f q).Perm (f :: q.erase g) := by
  induction q with
  | nil => simp at hg
  | cons x rest ih =>
    obtain ⟨hx, hrest⟩ := List.pairwise_cons.mp hq
    have hcons : replaceFrame f (x :: rest) =
        (if x.topic == f.topic then f else x) :: replaceFrame f rest := rfl
    rcases List.mem_cons.mp hg with rfl | hg
    · have hnew : ∀ y ∈ rest, y.topic ≠ f.topic := fun y hy e => by
        have := hx y hy
        rw [e, ht] at this
        omega
      rw [hcons, replaceFrame_of_new hnew, List.erase_cons_head]
      simp [ht]
    · have hne : x.topic ≠ f.topic := fun e => by
        have := hx g hg
        rw [e, ht] at this
        omega
      have hxg : x ≠ g := fun e => hne (e ▸ ht)
      rw [hcons, List.erase_cons_tail (by simpa using hxg)]
      simpa [hne] using ((ih hrest hg).cons x).trans (List.Perm.swap f x _)

/-! ### A frame joins the queue -/

theorem Link.enqueue_of_room {l : Link} (f : TxFrame) (h : l.queue.length ≤ 3) :
    l.enqueue f = ({ l with queue := insertFrame f l.queue }, []) := by
  simp only [Link.enqueue, length_insertFrame]
  rw [if_pos (by omega)]

/-- The frame with the highest topic number of five is dropped (R11). -/
theorem Link.enqueue_of_full {l : Link} (f : TxFrame) (h : 4 ≤ l.queue.length) :
    l.enqueue f =
      ({ l with queue := (insertFrame f l.queue).dropLast }.countDropped,
        [⟨((insertFrame f l.queue).getLast (insertFrame_ne_nil _ _)).topic,
          some ((insertFrame f l.queue).getLast (insertFrame_ne_nil _ _)).seq, .dropped⟩]) := by
  simp only [Link.enqueue, length_insertFrame]
  rw [if_neg (by omega), List.getLast?_eq_some_getLast (insertFrame_ne_nil _ _)]

/-- The frames that wait and the one that is dropped are those that waited and the one that joins them. -/
theorem insertFrame_dropLast_perm (f : TxFrame) (q : List TxFrame) :
    ((insertFrame f q).dropLast ++ [(insertFrame f q).getLast (insertFrame_ne_nil f q)]).Perm (f :: q) := by
  rw [List.dropLast_append_getLast]
  exact insertFrame_perm f q

theorem Link.enqueue_seqs (l : Link) (f : TxFrame) : (l.enqueue f).1.seqs = l.seqs := by
  unfold Link.enqueue
  dsimp only
  repeat' split
  all_goals rfl

theorem Link.enqueue_superseded (l : Link) (f : TxFrame) :
    (l.enqueue f).1.counters.superseded = l.counters.superseded := by
  unfold Link.enqueue
  dsimp only
  repeat' split
  all_goals rfl

/-- With room in the queue the frame joins those that wait. -/
theorem Link.enqueue_room_perm {l : Link} (f : TxFrame) (h : l.queue.length ≤ 3) :
    (l.enqueue f).1.queue.Perm (f :: l.queue) ∧ (l.enqueue f).1.counters.dropped = l.counters.dropped := by
  rw [Link.enqueue_of_room f h]
  exact ⟨insertFrame_perm f l.queue, rfl⟩

/-- With four frames waiting, the one of five with the highest topic number leaves the queue and is counted. -/
theorem Link.enqueue_full_perm {l : Link} {f : TxFrame} (hq : inTopicOrder l.queue)
    (hnew : ∀ g ∈ l.queue, g.topic ≠ f.topic) (h : l.queue.length = 4) :
    (l.enqueue f).1.counters.dropped = bump l.counters.dropped ∧
      ∃ last, ((l.enqueue f).1.queue ++ [last]).Perm (f :: l.queue) ∧
        ∀ g ∈ (l.enqueue f).1.queue, g.topic.number < last.topic.number := by
  rw [Link.enqueue_of_full f h.ge]
  exact ⟨rfl, _, insertFrame_dropLast_perm f l.queue, (insertFrame_inTopicOrder hq hnew).dropLast_lt _⟩

/-! ### Offers -/

/-- The link accepts offers that take a sequence (R10, R13, R17). -/
def Link.accepts (l : Link) : Prop := l.state = .silent ∨ l.state = .joined

theorem Link.offer_of_inactive {l : Link} (t : TxTopic) (p : List Byte) (h : l.state = .inactive) :
    l.offer t p = (l, []) := by
  simp [Link.offer, h]

theorem Link.offer_of_muted {l : Link} (t : TxTopic) (p : List Byte) (h : l.state = .muted) :
    l.offer t p = (l.countDropped, [⟨t, none, .dropped⟩]) := by
  simp [Link.offer, h]

/-- The link with the next sequence of a topic taken (R13). -/
def Link.takeSeq (l : Link) (t : TxTopic) : Link := { l with seqs := l.seqs.set t (l.seqs.get t + 1) }

theorem Link.offer_of_new {l : Link} {t : TxTopic} (p : List Byte) (h : l.accepts)
    (hnew : ∀ g ∈ l.queue, g.topic ≠ t) :
    l.offer t p = (l.takeSeq t).enqueue ⟨t, l.seqs.get t + 1, p⟩ := by
  rcases h with h | h <;> simp [Link.offer, h, waitingOf_eq_none.mpr hnew, Link.takeSeq]

theorem Link.offer_of_waiting {l : Link} {t : TxTopic} (p : List Byte) (h : l.accepts) {old : TxFrame}
    (hold : waitingOf l.queue t = some old) :
    l.offer t p =
      (({ l.takeSeq t with
          queue := replaceFrame ⟨t, l.seqs.get t + 1, p⟩ l.queue } : Link).countSuperseded,
        [⟨t, some old.seq, .superseded⟩]) := by
  rcases h with h | h <;> simp [Link.offer, h, hold, Link.takeSeq, replaceFrame]

/-! ### The link in order -/

/-- Nothing waits while the link is muted or inactive (R17, R18). -/
theorem Link.inOrder.queue_eq_nil {l : Link} (h : l.inOrder) (hs : l.state = .muted ∨ l.state = .inactive) :
    l.queue = [] := by
  obtain ⟨-, -, -, -, -, -, -, hempty⟩ := h
  exact hempty hs

/-- A frame is on the wire only while the link is JOINED (R7). -/
theorem Link.inOrder.joined_of_wire {l : Link} (h : l.inOrder) {f : TxFrame} (hf : l.wire = some f) :
    l.state = .joined := by
  obtain ⟨-, -, -, -, hwire, -⟩ := h
  exact hwire (by simp [hf])

/-- After offers the link is in order as soon as its queue is. -/
theorem Link.inOrder_of_onlyOffers {l l' : Link} (h : l.inOrder) (k : l.onlyOffers l')
    (horder : inTopicOrder l'.queue) (hlength : l'.queue.length ≤ 4)
    (hempty : l'.state = .muted ∨ l'.state = .inactive → l'.queue = []) : l'.inOrder := by
  obtain ⟨-, -, hfail, hmuted, hwire, hmute, hwait, -⟩ := h
  obtain ⟨kstate, kwire, kfail, kwait, kmute, -⟩ := k
  rw [← kstate] at hmuted hwire hmute hwait
  exact ⟨horder, hlength, kfail ▸ hfail, kfail ▸ hmuted, kwire ▸ hwire, kmute ▸ hmute, kwait ▸ hwait, hempty⟩

/-- A frame of a topic that does not wait joins the queue of a link that is not muted or inactive. -/
theorem Link.enqueue_inOrder {l : Link} {f : TxFrame} (h : l.inOrder) (ha : l.accepts)
    (hnew : ∀ g ∈ l.queue, g.topic ≠ f.topic) : (l.enqueue f).1.inOrder := by
  have horder := insertFrame_inTopicOrder h.1 hnew
  have hlength := length_insertFrame f l.queue
  have hfour : l.queue.length ≤ 4 := h.2.1
  have hk := Link.enqueue_onlyOffers l f
  have hempty : (l.enqueue f).1.state = .muted ∨ (l.enqueue f).1.state = .inactive →
      (l.enqueue f).1.queue = [] := by
    rw [hk.1]
    rcases ha with ha | ha <;> simp [ha]
  by_cases hroom : l.queue.length ≤ 3
  · rw [Link.enqueue_of_room f hroom] at hk hempty ⊢
    exact Link.inOrder_of_onlyOffers h hk horder (by simp only; omega) hempty
  · rw [Link.enqueue_of_full f (by omega)] at hk hempty ⊢
    exact Link.inOrder_of_onlyOffers h hk horder.dropLast
      (by simp only [Link.countDropped, List.length_dropLast]; omega) hempty

theorem Link.offer_inOrder {l : Link} (t : TxTopic) (p : List Byte) (h : l.inOrder) :
    (l.offer t p).1.inOrder := by
  have hk := Link.offer_onlyOffers l t p
  cases hs : l.state with
  | inactive => rwa [Link.offer_of_inactive t p hs]
  | muted =>
    rw [Link.offer_of_muted t p hs] at hk ⊢
    have hempty := h.queue_eq_nil (.inl hs)
    exact Link.inOrder_of_onlyOffers h hk h.1 h.2.1 fun _ => hempty
  | silent | joined =>
    have ha : l.accepts := by simp [Link.accepts, hs]
    by_cases hnew : ∀ g ∈ l.queue, g.topic ≠ t
    · rw [Link.offer_of_new p ha hnew]
      exact Link.enqueue_inOrder (l := l.takeSeq t) h ha hnew
    · obtain ⟨old, hold⟩ := Option.ne_none_iff_exists'.mp (mt waitingOf_eq_none.mp hnew)
      rw [Link.offer_of_waiting p ha hold] at hk ⊢
      refine Link.inOrder_of_onlyOffers h hk (replaceFrame_inTopicOrder _ h.1) ?_ ?_
      · simpa [Link.countSuperseded, replaceFrame] using h.2.1
      · simp [Link.countSuperseded, Link.takeSeq, hs]

end Sys2Proof.Machine
end

section
/-! SUPPORT. The reports to the Fault Monitor seen from the link, the tracks and the marks: a report leaves the link
in order and in its state, the tracks as they were, and every active fault latched. -/

namespace Sys2Proof.Machine

variable (s : State)

/-! ### Reports leave the link in order -/

theorem State.offer_inOrder (t : TxTopic) (p : List Byte) (h : s.link.inOrder) : (s.offer t p).link.inOrder :=
  Link.offer_inOrder t p h

theorem State.offerLtStatus_inOrder (h : s.link.inOrder) : s.offerLtStatus.link.inOrder := by
  unfold State.offerLtStatus
  split
  · exact h
  · exact State.offer_inOrder _ _ _ h

theorem State.refreshLamp_inOrder (h : s.link.inOrder) : s.refreshLamp.link.inOrder := by
  unfold State.refreshLamp
  split
  · exact h
  · exact State.offerLtStatus_inOrder _ h

theorem State.setCondition_inOrder (f : Fault12) (b : Bool) (h : s.link.inOrder) :
    (s.setCondition f b).link.inOrder := by
  unfold State.setCondition
  split
  · exact h
  · exact State.refreshLamp_inOrder _ h

@[simp] theorem State.offer_linkState (t : TxTopic) (p : List Byte) :
    (s.offer t p).link.state = s.link.state := (State.offer_onlyOffers s t p).1

@[simp] theorem State.offerLtStatus_linkState : s.offerLtStatus.link.state = s.link.state :=
  (State.offerLtStatus_onlyOffers s).1

@[simp] theorem State.refreshLamp_linkState : s.refreshLamp.link.state = s.link.state :=
  (State.refreshLamp_onlyOffers s).1

@[simp] theorem State.setCondition_linkState (f : Fault12) (b : Bool) :
    (s.setCondition f b).link.state = s.link.state := (State.setCondition_onlyOffers s f b).1

/-! ### Reports leave the tracks alone -/

theorem Publisher.onlyAwaits.track_eq {p q : Publisher} (h : p.onlyAwaits q) (c : Consumer) :
    q.track c = p.track c := by
  obtain ⟨hengine, hbrake, -⟩ := h
  cases c
  · exact hengine
  · exact hbrake

@[simp] theorem State.offer_track (t : TxTopic) (p : List Byte) (c : Consumer) :
    (s.offer t p).publisher.track c = s.publisher.track c := (State.offer_onlyAwaits s t p).track_eq c

@[simp] theorem State.offerLtStatus_track (c : Consumer) :
    s.offerLtStatus.publisher.track c = s.publisher.track c := (State.offerLtStatus_onlyAwaits s).track_eq c

@[simp] theorem State.refreshLamp_track (c : Consumer) :
    s.refreshLamp.publisher.track c = s.publisher.track c := (State.refreshLamp_onlyAwaits s).track_eq c

@[simp] theorem State.setCondition_track (f : Fault12) (b : Bool) (c : Consumer) :
    (s.setCondition f b).publisher.track c = s.publisher.track c :=
  (State.setCondition_onlyAwaits s f b).track_eq c

/-! ### Marks -/

theorem State.setCondition_conditionActive (f : Fault12) (b : Bool) (g : Fault12) :
    (s.setCondition f b).conditionActive g = if g = f then b else s.conditionActive g := by
  split
  · next h => rw [h, State.setCondition_active]
  · next h => rw [State.conditionActive, State.setCondition_other s f b h, State.conditionActive]

/-- Every active fault has its latched mark set (R172). -/
def FaultSet.activeLatched (t : FaultSet) : Prop := ∀ f, (t.get f).active = true → (t.get f).latched = true

theorem FaultMark.reported_latched {m : FaultMark} (h : m.active = true → m.latched = true) (b : Bool) :
    (m.reported b).active = true → (m.reported b).latched = true := by
  unfold FaultMark.reported
  cases b
  · simp
  · simp only [if_true]
    split
    · exact h
    · simp

theorem State.setCondition_activeLatched (f : Fault12) (b : Bool) (h : s.monitor.faults.activeLatched) :
    (s.setCondition f b).monitor.faults.activeLatched := by
  unfold State.setCondition
  split
  · exact h
  · rw [State.report_faults]
    intro g
    rw [FaultSet.get_set]
    split
    · exact FaultMark.reported_latched (h f) b
    · exact h g

/-- A fault's marks after a CLEAR_FAULTS request (R174). -/
theorem FaultSet.get_cleared (t : FaultSet) (f : Fault12) : t.cleared.get f = (t.get f).cleared := by
  cases f <;> rfl

@[simp] theorem FaultMark.cleared_active (m : FaultMark) : m.cleared.active = m.active := by
  unfold FaultMark.cleared
  split <;> rfl

theorem FaultSet.cleared_activeLatched {t : FaultSet} (h : t.activeLatched) : t.cleared.activeLatched := by
  intro f hf
  rw [FaultSet.get_cleared, FaultMark.cleared_active] at hf
  rw [FaultSet.get_cleared, FaultMark.cleared, if_pos hf]
  exact h f hf

/-! ### What the blocks show of a condition -/

/-- The condition of a fault as its owner's own state shows it, for the five faults of which a block's state tells
(R17, R31, R159, R173); a fault whose condition is its active mark alone (log entry 6) shows nothing. -/
def State.shown (s : State) : Fault12 → Option Bool
  | .engineSilent => some (decide ((s.publisher.track .engine).status = .silent))
  | .brakeSilent => some (decide ((s.publisher.track .brake).status = .silent))
  | .linkMuted => some (decide (s.link.state = .muted))
  | .speedLost => some (decide (s.topics.wheelSpeeds.freshness = .stale))
  | .profileFallback => some (decide (s.loader.phase = .running) && s.loader.fallback)
  | _ => none

/-- The active mark of a fault is what its owner shows. -/
def State.markTrue (s : State) (f : Fault12) : Prop := ∀ b, s.shown f = some b → s.conditionActive f = b

theorem State.conditionsTrue_iff :
    s.conditionsTrue ↔ (∀ f, s.markTrue f) ∧ s.monitor.faults.activeLatched := by
  have hdec : ∀ (b : Bool) (p : Prop) [Decidable p], (b = true ↔ p) ↔ b = decide p := by
    intro b p _
    by_cases hp : p <;> simp [hp]
  unfold State.conditionsTrue
  simp only [hdec]
  constructor
  · rintro ⟨he, hb, hm, hs, hrun, hload, hl⟩
    refine ⟨fun f b hshown => ?_, hl⟩
    cases f <;> simp only [State.shown, Option.some.injEq, reduceCtorEq] at hshown <;> subst hshown
    case profileFallback =>
      by_cases hp : s.loader.phase = .running
      · simp [hp, hrun]
      · simp [hp, hload]
    · exact hs
    · exact he
    · exact hb
    · exact hm
  · rintro ⟨h, hl⟩
    refine ⟨h _ _ rfl, h _ _ rfl, h _ _ rfl, h _ _ rfl, fun hp => ?_, fun hp => ?_, hl⟩
    · simpa [hp] using h .profileFallback _ rfl
    · simpa [hp] using h .profileFallback _ rfl

@[simp] theorem State.setCondition_shown (f : Fault12) (b : Bool) :
    (s.setCondition f b).shown = s.shown := by
  funext g
  cases g <;> simp [State.shown]

/-- A condition report makes its own mark true when the owner shows as much, and touches no other. -/
theorem State.setCondition_markTrue {f : Fault12} {b : Bool} {g : Fault12}
    (h : g ≠ f → s.markTrue g) (hf : ∀ x, s.shown f = some x → x = b) :
    (s.setCondition f b).markTrue g := by
  intro x hx
  rw [State.setCondition_shown] at hx
  rw [State.setCondition_conditionActive]
  split
  · next hg => exact (hf x (hg ▸ hx)).symm
  · next hg => exact h hg x hx

end Sys2Proof.Machine
end

section
/-! SUPPORT. What it means that an operation preserves the invariants of the link and of the Fault Monitor, the ways
to show it, and that offers and reports do so. -/

namespace Sys2Proof.Machine

/-! ### The relations -/

/-- From `s` to `t` the channel copy, the lamp, the marks of the standing conditions and the latched marks stay true. -/
structure State.KeepsMonitor (s t : State) : Prop where
  copy : s.copyTrue → t.copyTrue
  lamp : s.lampTrue → t.lampTrue
  marks : ∀ f, s.markTrue f → t.markTrue f
  latched : s.monitor.faults.activeLatched → t.monitor.faults.activeLatched

/-- The same, and the link stays in order. -/
structure State.Preserves (s t : State) : Prop extends s.KeepsMonitor t where
  link : s.linkInOrder → t.linkInOrder

theorem State.KeepsMonitor.trans {s t u : State} (h : s.KeepsMonitor t) (k : t.KeepsMonitor u) :
    s.KeepsMonitor u :=
  ⟨k.copy ∘ h.copy, k.lamp ∘ h.lamp, fun f => k.marks f ∘ h.marks f, k.latched ∘ h.latched⟩

theorem State.Preserves.refl (s : State) : s.Preserves s := ⟨⟨id, id, fun _ => id, id⟩, id⟩

theorem State.Preserves.trans {s t u : State} (h : s.Preserves t) (k : t.Preserves u) : s.Preserves u :=
  ⟨h.toKeepsMonitor.trans k.toKeepsMonitor, k.link ∘ h.link⟩

theorem State.KeepsMonitor.conditions {s t : State} (h : s.KeepsMonitor t) (hs : s.conditionsTrue) :
    t.conditionsTrue := by
  obtain ⟨hmarks, hlatched⟩ := (State.conditionsTrue_iff s).mp hs
  exact (State.conditionsTrue_iff t).mpr ⟨fun f => h.marks f (hmarks f), h.latched hlatched⟩

/-- From `s` to `t` nothing has been reported: the Monitor and what the blocks show of their conditions are as they
were, and the link has at most taken frames in order. The channels may have moved. -/
structure State.Quiet (s t : State) : Prop where
  phase : t.loader.phase = s.loader.phase
  shown : t.shown = s.shown
  monitor : t.monitor = s.monitor
  linkState : t.link.state = s.link.state
  link : s.link.inOrder → t.link.inOrder

theorem State.Quiet.trans {s t u : State} (h : s.Quiet t) (k : t.Quiet u) : s.Quiet u :=
  ⟨k.phase.trans h.phase, k.shown.trans h.shown, k.monitor.trans h.monitor, k.linkState.trans h.linkState,
    k.link ∘ h.link⟩

/-- The channels and the generator stand in `t` as in `s`. -/
structure State.SameChannels (s t : State) : Prop where
  driveState : t.drive.state = s.drive.state
  drivePath : t.drive.path = s.drive.path
  frontWheel : t.brake.front.state = s.brake.front.state
  rearWheel : t.brake.rear.state = s.brake.rear.state
  cut : t.generator.cutActive = s.generator.cutActive

/-- The Monitor's channel copy is the same. -/
structure Monitor.SameCopy (m n : Monitor) : Prop where
  driveState : n.driveState = m.driveState
  drivePath : n.drivePath = m.drivePath
  frontWheel : n.frontWheel = m.frontWheel
  rearWheel : n.rearWheel = m.rearWheel
  cut : n.regulationCut = m.regulationCut

theorem Monitor.SameCopy.refl (m : Monitor) : m.SameCopy m := ⟨rfl, rfl, rfl, rfl, rfl⟩

section

variable {s t u : State}

theorem State.shown_congr (hphase : t.loader.phase = s.loader.phase)
    (hfallback : t.loader.fallback = s.loader.fallback) (hlink : t.link.state = s.link.state)
    (hstatus : ∀ c, (t.publisher.track c).status = (s.publisher.track c).status)
    (hspeeds : t.topics.wheelSpeeds.freshness = s.topics.wheelSpeeds.freshness) : t.shown = s.shown := by
  funext f
  cases f <;> simp [State.shown, hphase, hfallback, hlink, hstatus, hspeeds]

theorem State.linkInOrder_of (h : s.linkInOrder) (hphase : t.loader.phase = s.loader.phase)
    (hstate : t.link.state = s.link.state) (hlink : s.link.inOrder → t.link.inOrder) : t.linkInOrder :=
  ⟨hlink h.1, fun hp => hstate.trans (h.2 (hphase ▸ hp))⟩

theorem State.SameChannels.copyTrue (h : s.SameChannels t) (hm : s.monitor.SameCopy t.monitor)
    (hs : s.copyTrue) : t.copyTrue := by
  obtain ⟨hstate, hpath, hfront, hrear, hcut⟩ := hs
  exact ⟨by rw [hm.driveState, h.driveState, hstate], by rw [hm.drivePath, h.drivePath, hpath],
    by rw [hm.frontWheel, h.frontWheel, hfront], by rw [hm.rearWheel, h.rearWheel, hrear],
    by rw [hm.cut, h.cut, hcut]⟩

/-- A mark stays true where neither it nor what is shown of it changes. -/
theorem State.markTrue_congr {f : Fault12} (hshown : t.shown f = s.shown f)
    (hactive : t.conditionActive f = s.conditionActive f) (h : s.markTrue f) : t.markTrue f := by
  intro b hb
  rw [hactive]
  exact h b (hshown ▸ hb)

/-! ### Operations that report nothing -/

/-- A quiet operation preserves the invariants as soon as the channel copy stays true. -/
theorem State.Quiet.preserves (h : s.Quiet t) (hcopy : s.copyTrue → t.copyTrue) : s.Preserves t where
  link hs := State.linkInOrder_of hs h.phase h.linkState h.link
  copy := hcopy
  lamp hl := by rw [State.lampTrue, h.monitor]; exact hl
  marks f := State.markTrue_congr (by rw [h.shown]) (by rw [State.conditionActive, h.monitor]; rfl)
  latched := by rw [h.monitor]; exact id

theorem State.Quiet.preserves_of_channels (h : s.Quiet t) (hc : s.SameChannels t) : s.Preserves t :=
  h.preserves (hc.copyTrue (h.monitor ▸ Monitor.SameCopy.refl _))

/-- An operation that leaves the link, the loader and the Monitor alone, and every status and freshness shown. -/
theorem State.Quiet.of_frame (hlink : t.link = s.link) (hloader : t.loader = s.loader)
    (hstatus : ∀ c, (t.publisher.track c).status = (s.publisher.track c).status)
    (hspeeds : t.topics.wheelSpeeds.freshness = s.topics.wheelSpeeds.freshness) (hm : t.monitor = s.monitor) :
    s.Quiet t :=
  ⟨by rw [hloader], State.shown_congr (by rw [hloader]) (by rw [hloader]) (by rw [hlink]) hstatus hspeeds, hm,
    by rw [hlink], by rw [hlink]; exact id⟩

/-- An operation on the parts that neither the link nor the Monitor looks at. -/
theorem State.Preserves.of_same (h : t.link = s.link ∧ t.loader = s.loader ∧ t.publisher = s.publisher ∧
    t.topics = s.topics ∧ t.drive = s.drive ∧ t.brake = s.brake ∧ t.generator = s.generator ∧
    t.monitor = s.monitor) : s.Preserves t := by
  obtain ⟨hlink, hloader, hpub, htopics, hdrive, hbrake, hgen, hm⟩ := h
  exact (State.Quiet.of_frame hlink hloader (by simp [hpub]) (by rw [htopics]) hm).preserves_of_channels
    ⟨by rw [hdrive], by rw [hdrive], by rw [hbrake], by rw [hbrake], by rw [hgen]⟩

/-! ### The Monitor decides the lamp -/

theorem State.refreshLamp_sameCopy (s : State) : s.monitor.SameCopy s.refreshLamp.monitor :=
  ⟨by simp, by simp, by simp, by simp, by simp⟩

/-- After a quiet operation the Monitor takes a new copy, or new marks with the same faults active, and decides the
lamp: the lamp ends true, the rest stays as the copy and the marks are. -/
theorem State.Quiet.refreshLamp_preserves (h : s.Quiet u) {m : Monitor}
    (hcopy : s.copyTrue → (u.setMonitor m).copyTrue)
    (hactive : ∀ f, (m.faults.get f).active = (s.monitor.faults.get f).active)
    (hlatched : s.monitor.faults.activeLatched → m.faults.activeLatched) :
    s.Preserves (u.setMonitor m).refreshLamp where
  link hs := State.linkInOrder_of hs (by simpa using h.phase) (by simpa using h.linkState)
    (State.refreshLamp_inOrder (u.setMonitor m) ∘ h.link)
  copy hs := State.SameChannels.copyTrue ⟨by simp, by simp, by simp, by simp, by simp⟩
    (State.refreshLamp_sameCopy _) (hcopy hs)
  lamp _ := State.refreshLamp_lampTrue _
  marks f := by
    have hshown : (u.setMonitor m).refreshLamp.shown = u.shown :=
      State.shown_congr (by simp) (by simp) (by simp) (by simp) (by simp)
    exact State.markTrue_congr (by rw [hshown, h.shown]) (by simp [State.conditionActive, hactive])
  latched := by simpa using hlatched

end

variable (s : State)

/-! ### Offers -/

theorem State.offer_quiet (t : TxTopic) (p : List Byte) : s.Quiet (s.offer t p) :=
  ⟨rfl, State.shown_congr rfl rfl (by simp) (by simp) rfl, rfl, by simp, State.offer_inOrder s t p⟩

theorem State.offer_preserves (t : TxTopic) (p : List Byte) : s.Preserves (s.offer t p) :=
  (State.offer_quiet s t p).preserves_of_channels ⟨rfl, rfl, rfl, rfl, rfl⟩

theorem State.offerLtStatus_preserves : s.Preserves s.offerLtStatus where
  link h := State.linkInOrder_of h (by simp) (by simp) (State.offerLtStatus_inOrder s)
  copy h := by
    unfold State.copyTrue
    rw [State.offerLtStatus_monitor]
    simpa [State.copyTrue] using h
  lamp h := by simpa [State.lampTrue] using h
  marks f := State.markTrue_congr (by rw [State.shown_congr] <;> simp) (by simp [State.conditionActive])
  latched := by rw [State.offerLtStatus_faults]; exact id

/-! ### Condition reports -/

theorem State.setCondition_linkInOrder (f : Fault12) (b : Bool) (h : s.linkInOrder) :
    (s.setCondition f b).linkInOrder :=
  State.linkInOrder_of h (by simp) (by simp) (State.setCondition_inOrder s f b)

theorem State.setCondition_copyTrue (f : Fault12) (b : Bool) (h : s.copyTrue) :
    (s.setCondition f b).copyTrue := by
  have hcopy : s.monitor.SameCopy (s.setCondition f b).monitor := by
    unfold State.setCondition
    split
    · exact Monitor.SameCopy.refl _
    · unfold State.report
      constructor <;> simp
  exact State.SameChannels.copyTrue ⟨by simp, by simp, by simp, by simp, by simp⟩ hcopy h

/-- A report of a condition preserves the invariants when the owner shows it as reported, or shows nothing. -/
theorem State.setCondition_preserves {f : Fault12} {b : Bool} (hf : ∀ x, s.shown f = some x → x = b) :
    s.Preserves (s.setCondition f b) where
  link := State.setCondition_linkInOrder s f b
  copy := State.setCondition_copyTrue s f b
  lamp := State.setCondition_lampTrue s f b
  marks _ h := State.setCondition_markTrue s (fun _ => h) hf
  latched := State.setCondition_activeLatched s f b

/-- The report of a condition of which no block's state tells. -/
theorem State.setCondition_preserves_hidden {f : Fault12} (b : Bool) (hf : s.shown f = none) :
    s.Preserves (s.setCondition f b) :=
  State.setCondition_preserves s fun x hx => by rw [hf] at hx; cases hx

end Sys2Proof.Machine
end

section
/-! SUPPORT. The operations of the blocks preserve the invariants of the link and of the Fault Monitor, in the order of
the blocks. -/

namespace Sys2Proof.Machine

variable (s : State)

/-! ### The estimator and the selector -/

theorem State.refreshLeanConditions_preserves (r : LeanRecord) : s.Preserves (s.refreshLeanConditions r) :=
  (State.setCondition_preserves_hidden s _ rfl).trans (State.setCondition_preserves_hidden _ _ (by simp [State.shown]))

theorem State.estimate_preserves (cause : LeanCause) : s.Preserves (s.estimate cause) :=
  ((State.Preserves.of_same (by simp)).trans
    (State.refreshLeanConditions_preserves (s.setEstimator (s.estimator.keep (s.leanRecord cause))) (s.leanRecord cause))).trans
    (.of_same (by simp [State.estimate, State.refreshBase]))

theorem State.podArrival_preserves : s.Preserves s.podArrival := by
  unfold State.podArrival
  split
  · exact .refl s
  · exact State.estimate_preserves s _

theorem State.resetEstimator_preserves : s.Preserves s.resetEstimator :=
  ((State.Preserves.of_same (by simp)).trans
    (State.setCondition_preserves_hidden (s.setEstimator { s.estimator with base := none, disagreementRun := 0 })
      false rfl)).trans
    (State.setCondition_preserves_hidden _ _ (by simp [State.shown]))

/-! ### The publisher -/

/-- A track is replaced, and its SILENT condition reported as its status shows it (R159). -/
theorem State.setTrack_preserves (c : Consumer) (t : Track) : s.Preserves (s.setTrack c t) where
  link h := State.setCondition_linkInOrder (s.setPublisher _) _ _ h
  copy h := State.setCondition_copyTrue (s.setPublisher _) _ _ h
  lamp h := State.setCondition_lampTrue (s.setPublisher _) _ _ h
  marks f h := by
    have hshown : f ≠ silentFault c → (s.setPublisher (s.publisher.setTrack c t)).shown f = s.shown f := by
      intro hf
      cases c <;> cases f <;> first | rfl | exact absurd rfl hf
    refine State.setCondition_markTrue (s.setPublisher _) (fun hf => State.markTrue_congr (hshown hf) rfl h) ?_
    cases c <;> simp [State.shown, silentFault]
  latched h := State.setCondition_activeLatched (s.setPublisher _) _ _ h

theorem Publisher.await_track (p : Publisher) (a : AwaitedLimit) (c : Consumer) : (p.await a).track c = p.track c := by
  cases c <;> rfl

theorem State.offerLimit_quiet (c : Consumer) (v : LimitValue) : s.Quiet (s.offerLimit c v) :=
  State.Quiet.trans
    (t := s.setPublisher (s.publisher.await ⟨limitTopic c, s.link.seqs.get (limitTopic c) + 1, v⟩))
    (.of_frame rfl rfl (by simp [Publisher.await_track]) rfl rfl) (State.offer_quiet _ _ _)

theorem State.publishLimit_quiet (c : Consumer) (v : LimitValue) : s.Quiet (s.publishLimit c v) := by
  unfold State.publishLimit
  split
  · exact State.offerLimit_quiet s c v
  · refine .of_frame rfl rfl (fun d => ?_) rfl rfl
    rw [State.setPublisher_publisher, Publisher.track_setTrack]
    split
    · next h => rw [h]; rfl
    · rfl

theorem State.forget_preserves (r : List TxReport) : s.Preserves (s.setPublisher (s.publisher.forget r)) :=
  State.Quiet.preserves_of_channels (t := s.setPublisher (s.publisher.forget r))
    (.of_frame rfl rfl (by simp) rfl rfl) ⟨rfl, rfl, rfl, rfl, rfl⟩

theorem State.limitOutcome_preserves (f : TxFrame) (o : TxOutcome) : s.Preserves (s.limitOutcome f o) := by
  have h := State.forget_preserves s [⟨f.topic, some f.seq, o⟩]
  unfold State.limitOutcome
  dsimp only
  repeat' split
  · exact h.trans (State.setTrack_preserves _ _ _)
  · exact h
  · exact h

/-! ### The channels and the generator -/

/-- The regulator reports what a quiet operation has made of its state and path (R123). -/
theorem State.Quiet.tellDriveIfChanged {s u : State} (h : s.Quiet u)
    (hbrake : u.brake = s.brake) (hcut : u.generator.cutActive = s.generator.cutActive) :
    s.Preserves (u.tellDriveIfChanged s.drive) := by
  unfold State.tellDriveIfChanged
  split
  · next hsame =>
    exact h.preserves_of_channels ⟨hsame.1, hsame.2, by rw [hbrake], by rw [hbrake], hcut⟩
  · refine h.refreshLamp_preserves (fun hs => ?_) (fun f => by rw [h.monitor]) (by rw [h.monitor]; exact id)
    obtain ⟨-, -, hfront, hrear, hc⟩ := hs
    exact ⟨rfl, rfl, by simp [h.monitor, hbrake, hfront], by simp [h.monitor, hbrake, hrear],
      by simp [h.monitor, hcut, hc]⟩

/-- The supervisor reports what a quiet operation has made of its wheels (R139). -/
theorem State.Quiet.tellBrakeIfChanged {s u : State} (h : s.Quiet u)
    (hdrive : u.drive = s.drive) (hcut : u.generator.cutActive = s.generator.cutActive) :
    s.Preserves (u.tellBrakeIfChanged s.brake) := by
  unfold State.tellBrakeIfChanged
  split
  · next hsame =>
    exact h.preserves_of_channels ⟨by rw [hdrive], by rw [hdrive], hsame.1, hsame.2, hcut⟩
  · refine h.refreshLamp_preserves (fun hs => ?_) (fun f => by rw [h.monitor]) (by rw [h.monitor]; exact id)
    obtain ⟨hstate, hpath, -, -, hc⟩ := hs
    exact ⟨by simp [h.monitor, hdrive, hstate], by simp [h.monitor, hdrive, hpath], rfl, rfl,
      by simp [h.monitor, hcut, hc]⟩

/-- The generator reports what a quiet operation has made of its regulation cut (R161). -/
theorem State.Quiet.tellCut {s u : State} (h : s.Quiet u) (hdrive : u.drive = s.drive)
    (hbrake : u.brake = s.brake) : s.Preserves (u.tellCut u.generator.cutActive) := by
  unfold State.tellCut
  split
  · next hsame =>
    refine h.preserves fun hs => ?_
    obtain ⟨hstate, hpath, hfront, hrear, -⟩ := hs
    exact ⟨by simp [h.monitor, hdrive, hstate], by simp [h.monitor, hdrive, hpath],
      by simp [h.monitor, hbrake, hfront], by simp [h.monitor, hbrake, hrear], hsame⟩
  · refine h.refreshLamp_preserves (fun hs => ?_) (fun f => by rw [h.monitor]) (by rw [h.monitor]; exact id)
    obtain ⟨hstate, hpath, hfront, hrear, -⟩ := hs
    exact ⟨by simp [h.monitor, hdrive, hstate], by simp [h.monitor, hdrive, hpath],
      by simp [h.monitor, hbrake, hfront], by simp [h.monitor, hbrake, hrear], rfl⟩

/-- The reports of a regulation step reach the Monitor together after a quiet operation (R123, R161). -/
theorem State.Quiet.tellStep {s u : State} (h : s.Quiet u) (hbrake : u.brake = s.brake) :
    s.Preserves (u.tellStep s.drive) := by
  have hfaults : ∀ d c, (u.monitor.copyStep s.drive d c).faults = s.monitor.faults := by
    intro d c
    rw [h.monitor, Monitor.copyStep]
    split <;> rfl
  have hwheels : ∀ d c, (u.monitor.copyStep s.drive d c).frontWheel = s.monitor.frontWheel ∧
      (u.monitor.copyStep s.drive d c).rearWheel = s.monitor.rearWheel := by
    intro d c
    rw [h.monitor, Monitor.copyStep]
    split <;> exact ⟨rfl, rfl⟩
  refine h.refreshLamp_preserves (fun hs => ?_) (fun f => by rw [hfaults]) (by rw [hfaults]; exact id)
  obtain ⟨hstate, hpath, hfront, hrear, -⟩ := hs
  have hcopy := State.tellStep_copy u s.drive (by rw [h.monitor, hstate]) (by rw [h.monitor, hpath])
  simp only [State.tellStep, State.refreshLamp_driveState, State.refreshLamp_drivePath] at hcopy
  refine ⟨hcopy.1, hcopy.2, ?_, ?_, ?_⟩
  · simp [hwheels, hfront, hbrake]
  · simp [hwheels, hrear, hbrake]
  · simpa [State.tellStep] using State.tellStep_regulationCut u s.drive

theorem State.handover_quiet (path : DrivePath) (k : Nat) : s.Quiet (s.handover path k) :=
  .of_frame (by simp) (by simp) (by simp) (by simp) (by simp)

theorem State.regulationStep_preserves : s.Preserves s.regulationStep := by
  have hdrive : s.Quiet ((s.driveNotice s.driveStages).setDrive (s.driveAfter s.driveStages)) :=
    .of_frame (by simp) (by simp) (by simp) (by simp) (by simp)
  exact ((hdrive.trans (State.publishLimit_quiet _ _ _)).trans (State.handover_quiet _ _ _)).tellStep (by simp)

theorem State.brakeStep_preserves : s.Preserves s.brakeStep := by
  have hbrake : s.Quiet (s.setBrake s.brakeAfter) := .of_frame rfl rfl (by simp) rfl rfl
  exact (hbrake.trans (State.publishLimit_quiet _ _ _)).tellBrakeIfChanged (by simp) (by simp)

theorem State.resetDrive_preserves : s.Preserves s.resetDrive :=
  State.Quiet.tellDriveIfChanged (u := s.setDrive _) (.of_frame rfl rfl (by simp) rfl rfl) rfl rfl

theorem State.resetBrake_preserves : s.Preserves s.resetBrake :=
  State.Quiet.tellBrakeIfChanged (u := s.setBrake _) (.of_frame rfl rfl (by simp) rfl rfl) rfl rfl

theorem State.absArrival_preserves : s.Preserves s.absArrival :=
  (State.Quiet.of_frame (by simp) (by simp) (by simp) (by simp) (by simp)).preserves_of_channels
    ⟨by simp, by simp, rfl, rfl, by simp⟩

/-- Both tracks start anew and their conditions become inactive (R169). -/
theorem State.clearTracks_preserves {p : Publisher} (hengine : p.engine = Track.initial)
    (hbrake : p.brake = Track.initial) :
    s.Preserves (((s.setPublisher p).setCondition .engineSilent false).setCondition .brakeSilent false) where
  link h := State.setCondition_linkInOrder _ _ _ (State.setCondition_linkInOrder (s.setPublisher p) _ _ h)
  copy h := State.setCondition_copyTrue _ _ _ (State.setCondition_copyTrue (s.setPublisher p) _ _ h)
  lamp h := State.setCondition_lampTrue _ _ _ (State.setCondition_lampTrue (s.setPublisher p) _ _ h)
  marks f h := by
    refine State.setCondition_markTrue _ (fun hb => State.setCondition_markTrue _ (fun he => ?_) ?_) ?_
    · refine State.markTrue_congr (s := s) ?_ rfl h
      cases f <;> first | rfl | exact absurd rfl hb | exact absurd rfl he
    · simp [State.shown, Publisher.track, hengine, Track.initial]
    · have hstatus := State.setCondition_track (s.setPublisher p) .engineSilent false .brake
      simp only [State.setPublisher_publisher, Publisher.track, hbrake] at hstatus
      simp [State.shown, Publisher.track, hstatus, Track.initial]
  latched h :=
    State.setCondition_activeLatched _ _ _ (State.setCondition_activeLatched (s.setPublisher p) _ _ h)

theorem State.resetPublisher_preserves : s.Preserves s.resetPublisher := by
  have hgenerator : ∀ u : State, u.Quiet (u.setGenerator s.generator.reset) := fun u =>
    .of_frame rfl rfl (by simp) rfl rfl
  exact (State.clearTracks_preserves s (p := { s.publisher with engine := Track.initial, brake := Track.initial })
    rfl rfl).trans ((hgenerator _).tellCut rfl rfl)

theorem State.chassisReset_preserves : s.Preserves s.chassisReset :=
  ((((State.resetEstimator_preserves s).trans (.of_same (by simp))).trans
    (State.resetDrive_preserves _)).trans (State.resetBrake_preserves _)).trans (State.resetPublisher_preserves _)

/-! ### The Service Responder -/

theorem State.offerReply_preserves (tag record offset : Byte) (status : ServiceStatus) (data : List Byte) :
    s.Preserves (s.offerReply tag record offset status data) :=
  (State.Preserves.of_same (by simp)).trans
    (State.offer_preserves (s.setResponder { s.responder with replies := bump s.responder.replies }) _ _)

theorem State.answer_preserves (r : Request) (status : ServiceStatus) (data : List Byte) :
    s.Preserves (s.answer r status data) := State.offerReply_preserves s _ _ _ _ _

theorem State.serveRead_preserves (r : Request) : s.Preserves (s.serveRead r) := by
  unfold State.serveRead
  repeat' split
  all_goals exact State.answer_preserves s _ _ _

theorem State.serveWrite_preserves (r : Request) : s.Preserves (s.serveWrite r) := by
  unfold State.serveWrite
  dsimp only
  repeat' split
  · exact State.answer_preserves s _ _ _
  · exact State.answer_preserves s _ _ _
  · exact State.answer_preserves s _ _ _
  · exact State.Preserves.trans (.of_same (by simp)) (State.answer_preserves (s.setResponder _) _ _ _)

theorem State.serveStore_preserves (r : Request) : s.Preserves (s.serveStore r) := by
  unfold State.serveStore
  split
  · exact .of_same (by simp)
  · exact State.answer_preserves s _ _ _

theorem State.serveClear_preserves (r : Request) : s.Preserves (s.serveClear r) := by
  let m : Monitor :=
    { s.monitor with faults := s.monitor.faults.cleared, clearRequests := bump s.monitor.clearRequests }
  have hquiet : s.Quiet s := .of_frame rfl rfl (fun _ => rfl) rfl rfl
  have hclear : s.Preserves (s.setMonitor m).refreshLamp :=
    hquiet.refreshLamp_preserves id (fun f => by rw [FaultSet.get_cleared, FaultMark.cleared_active])
      FaultSet.cleared_activeLatched
  exact hclear.trans (State.answer_preserves _ _ _ _)

/-- A cut test is no regulation cut (R166). -/
theorem State.serveTest_preserves (r : Request) : s.Preserves (s.serveTest r) := by
  unfold State.serveTest
  split
  · next hmay =>
    have hcut : s.generator.cutActive = false := by
      simp only [Generator.mayTest, Bool.and_eq_true, Bool.not_eq_true'] at hmay
      exact hmay.1.1
    have hstart : ∀ k now period, s.Preserves (s.setGenerator (s.generator.start .test k now period)) :=
      fun k now period => State.Quiet.preserves_of_channels (.of_frame rfl rfl (by simp) rfl rfl)
        ⟨rfl, rfl, rfl, rfl, Eq.trans rfl hcut.symm⟩
    exact (hstart _ _ _).trans (State.answer_preserves _ _ _ _)
  · exact State.answer_preserves s _ _ _

theorem State.judgeRequest_preserves (r : Request) : s.Preserves (s.judgeRequest r) := by
  unfold State.judgeRequest State.serveKind
  repeat' split
  · exact State.answer_preserves s _ _ _
  · exact State.serveRead_preserves s r
  · exact State.answer_preserves s _ _ _
  · exact State.answer_preserves s _ _ _
  · exact State.serveWrite_preserves s r
  · exact State.serveStore_preserves s r
  · exact State.serveClear_preserves s r
  · exact State.serveTest_preserves s r

theorem State.serve_preserves (p : List Byte) : s.Preserves (s.serve p) := by
  unfold State.serve
  dsimp only
  split
  · exact .of_same (by simp)
  · exact State.judgeRequest_preserves s _

theorem State.finishStore_preserves (st : Store) (b : Bool) : s.Preserves (s.finishStore st b) :=
  ((State.Preserves.of_same (by simp)).trans (State.offerReply_preserves (s.setResponder _) _ _ _ _ _)).trans
    (State.setCondition_preserves_hidden _ _ (by simp [State.shown]))

/-! ### The Topic Store -/

/-- An entry is replaced by one as fresh, or one of another topic than WHEEL_SPEEDS. -/
theorem State.setEntry_preserves {e : EntryName} {x : Entry}
    (h : e = .wheelSpeeds → x.freshness = s.topics.wheelSpeeds.freshness) : s.Preserves (s.setEntry e x) := by
  refine State.Quiet.preserves_of_channels (.of_frame rfl rfl (by simp) ?_ rfl) ⟨rfl, rfl, rfl, rfl, rfl⟩
  cases e <;> first | exact h rfl | rfl

theorem State.discardIntruder_preserves (e : EntryName) : s.Preserves (s.discardIntruder e) := by
  have hcount : s.Preserves (s.setEntry e { s.topics.get e with intruders := bump255 (s.topics.get e).intruders }) :=
    State.setEntry_preserves s (by rintro rfl; rfl)
  unfold State.discardIntruder
  dsimp only
  split
  · exact hcount.trans (State.setCondition_preserves_hidden _ _ (by simp [State.shown]))
  · exact hcount

/-- The link enters JOINED from SILENT (R15, R16). -/
theorem State.join_preserves (h : s.link.state = .silent) : s.Preserves s.join where
  link hs := by
    obtain ⟨⟨horder, hlength, hfail, hmuted, -, hmute, -, -⟩, hphase⟩ := hs
    rw [h] at hmuted hmute
    refine ⟨⟨horder, hlength, hfail, by simpa [State.join] using hmuted, fun _ => rfl,
      by simpa [State.join] using hmute, by simp [State.join], by simp [State.join]⟩, fun hp => ?_⟩
    have := hphase hp
    rw [h] at this
    cases this
  copy := id
  lamp := id
  marks f := by
    refine State.markTrue_congr ?_ rfl
    cases f
    case linkMuted => simp [State.shown, State.join, h]
    all_goals rfl
  latched := id

theorem State.heardNotice_preserves : s.Preserves s.heardNotice := by
  unfold State.heardNotice
  split
  · next h =>
    split
    · exact State.join_preserves s h
    · exact .refl s
  · split
    · exact State.setCondition_preserves_hidden s _ rfl
    · exact .refl s
  · exact .refl s

end Sys2Proof.Machine
end

section
/-! SUPPORT. The receive path, the frame on the wire, the link states and the load preserve the invariants of the link
and of the Fault Monitor. -/

namespace Sys2Proof.Machine

variable (s : State)

/-! ### Acceptance and arrivals -/

/-- The notices of an acceptance: the entry is FRESH, and SPEED_LOST ends where a STALE WHEEL_SPEEDS ends (R25,
R31, R35). -/
theorem State.noticeAccepted_preserves {e : EntryName} {x : Entry} (hx : x.freshness = .fresh) :
    s.Preserves ((s.setEntry e x).noticeAccepted e (s.topics.get e)) := by
  have hheard : (s.setEntry e x).Preserves
      (if (s.topics.get e).heard then s.setEntry e x else (s.setEntry e x).heardNotice) := by
    split
    · exact .refl _
    · exact State.heardNotice_preserves _
  unfold State.noticeAccepted
  dsimp only
  split
  · next hstale =>
    obtain ⟨-, rfl⟩ := hstale
    have hother : ∀ f, f ≠ .speedLost → s.markTrue f → (s.setEntry .wheelSpeeds x).markTrue f := by
      intro f hf h
      refine State.markTrue_congr (s := s) ?_ rfl h
      cases f <;> first | rfl | exact absurd rfl hf
    exact
      { link := fun h => State.setCondition_linkInOrder _ _ _ (hheard.link h)
        copy := fun h => State.setCondition_copyTrue _ _ _ (hheard.copy h)
        lamp := fun h => State.setCondition_lampTrue _ _ _ (hheard.lamp h)
        latched := fun h => State.setCondition_activeLatched _ _ _ (hheard.latched h)
        marks := fun f h => State.setCondition_markTrue _ (fun hf => hheard.marks f (hother f hf h)) (by
          split <;> simp [State.shown, State.setEntry, Topics.set, hx]) }
  · next hstale =>
    refine State.Preserves.trans (t := s.setEntry e x)
      (State.Quiet.preserves_of_channels ⟨rfl, ?_, rfl, rfl, id⟩ ⟨rfl, rfl, rfl, rfl, rfl⟩) hheard
    funext f
    cases e
    case wheelSpeeds =>
      have hbefore : s.topics.wheelSpeeds.freshness ≠ .stale := fun h => hstale ⟨h, rfl⟩
      cases f
      case speedLost => simp [State.shown, State.setEntry, Topics.set, hx, hbefore]
      all_goals rfl
    all_goals cases f <;> rfl

theorem State.echoArrival_preserves (c : Consumer) : s.Preserves (s.echoArrival c) :=
  State.setTrack_preserves s _ _

theorem State.announce_preserves (e : EntryName) : s.Preserves (s.announce e) := by
  cases e
  case wheelSpeeds => exact .of_same (by simp [State.announce])
  case inertialRates => exact State.estimate_preserves s _
  case inertialAccel => exact .refl s
  case inertialLean => exact State.podArrival_preserves s
  case engineState => exact (State.echoArrival_preserves s .engine).trans (.of_same (by simp [State.announce]))
  case brakeState => exact (State.echoArrival_preserves s _).trans (State.absArrival_preserves _)
  case suspensionState => exact .of_same (by simp [State.announce])
  case dashSelect => exact .of_same (by simp [State.announce])

theorem State.offerEntry_preserves (e : EntryName) (f : Frame) : s.Preserves (s.offerEntry e f) := by
  unfold State.offerEntry
  dsimp only
  split
  · exact State.setEntry_preserves s (by rintro rfl; rfl)
  · exact State.discardIntruder_preserves s e
  · exact State.setEntry_preserves s (by rintro rfl; rfl)
  · exact (State.noticeAccepted_preserves s rfl).trans (State.announce_preserves _ e)

theorem State.offerEntries_preserves (f : Frame) (l : List EntryName) : s.Preserves (s.offerEntries f l) := by
  induction l generalizing s with
  | nil => exact .refl s
  | cons e rest ih => exact (State.offerEntry_preserves s e f).trans (ih _)

theorem State.resetMessage_preserves (f : Frame) : s.Preserves (s.resetMessage f) := by
  have hcount : ∀ a i, s.Preserves (s.setTopics { s.topics with announcedResets := a, ignoredResets := i }) :=
    fun a i => State.Quiet.preserves_of_channels (.of_frame rfl rfl (by simp) rfl rfl) ⟨rfl, rfl, rfl, rfl, rfl⟩
  unfold State.resetMessage
  split
  · exact (hcount _ _).trans (State.chassisReset_preserves _)
  · exact hcount _ _

theorem State.staleNotice_preserves (e : EntryName) (h : e ≠ .wheelSpeeds) : s.Preserves (s.staleNotice e) := by
  cases e
  case wheelSpeeds => exact absurd rfl h
  case inertialRates => exact State.estimate_preserves s _
  case inertialAccel => exact .refl s
  case inertialLean => exact .refl s
  case engineState => exact State.setTrack_preserves s _ _
  case brakeState => exact State.setTrack_preserves s _ _
  case suspensionState => exact .of_same (by simp [State.staleNotice])
  case dashSelect => exact .of_same (by simp [State.staleNotice])

/-- An entry goes STALE with its notices (R31). -/
theorem State.goStale_preserves (e : EntryName) :
    s.Preserves ((s.setEntry e (s.topics.get e).stale).staleNotice e) := by
  by_cases he : e = .wheelSpeeds
  · subst he
    exact
      { link := State.setCondition_linkInOrder (s.setEntry _ _) _ _
        copy := State.setCondition_copyTrue (s.setEntry _ _) _ _
        lamp := State.setCondition_lampTrue (s.setEntry _ _) _ _
        latched := State.setCondition_activeLatched (s.setEntry _ _) _ _
        marks := fun f h => State.setCondition_markTrue _ (fun hf => State.markTrue_congr (s := s) (by
            cases f <;> first | rfl | exact absurd rfl hf) rfl h)
          (by simp [State.shown, State.setEntry, Topics.set, Entry.stale]) }
  · exact (State.setEntry_preserves s fun h => absurd h he).trans (State.staleNotice_preserves _ e he)

/-! ### The receive path -/

/-- The link counts, drives the slot or waits for idle: it stays in order and in its state. -/
theorem State.setLink_preserves {l : Link} (hstate : l.state = s.link.state) (hlink : s.link.inOrder → l.inOrder) :
    s.Preserves (s.setLink l) :=
  State.Quiet.preserves_of_channels (t := s.setLink l) ⟨rfl, State.shown_congr rfl rfl hstate (by simp) rfl, rfl, hstate, hlink⟩
    ⟨rfl, rfl, rfl, rfl, rfl⟩

theorem State.handOver_preserves (f : Frame) : s.Preserves (s.handOver f) := by
  unfold State.handOver
  split
  · exact State.offerEntries_preserves s f _
  · repeat' split
    · exact State.resetMessage_preserves s f
    · exact State.serve_preserves s _
    · exact State.setLink_preserves s rfl id

theorem State.clashTest_preserves (h : Heard) : s.Preserves (s.clashTest h) := by
  unfold State.clashTest
  split
  · exact State.setCondition_preserves_hidden s _ rfl
  · exact .refl s

theorem State.receive_preserves (h : Heard) : s.Preserves (s.receive h) := by
  cases h
  case badHeader => exact State.setLink_preserves s rfl id
  case badLength => exact State.setLink_preserves s rfl id
  case badPayload => exact State.setLink_preserves s rfl id
  case good f =>
    have hslot : s.Preserves (s.driveSlot (s.link.slotFor true)) := State.setLink_preserves s rfl id
    exact hslot.trans (State.handOver_preserves _ f)

theorem State.hearFrame_preserves (bits : List Level) : s.Preserves (s.hearFrame bits) := by
  unfold State.hearFrame
  split
  · exact (State.clashTest_preserves s _).trans (State.receive_preserves _ _)
  · exact .refl s

end Sys2Proof.Machine
end

section
/-! SUPPORT. The frame on the wire, the link states and the completion of the load: what each leaves of the link and of
the Monitor's marks. -/

namespace Sys2Proof.Machine

variable (s : State)

/-! ### The frame on the wire -/

/-- The link with the frame on the wire taken off it. -/
theorem Link.inOrder_of_clearWire {l l' : Link} (h : l.inOrder) (hqueue : l'.queue = l.queue)
    (hwire : l'.wire = none) (hstate : l'.state = l.state) (hfail : l'.failures = l.failures)
    (hwait : l'.joinWaitEnds = l.joinWaitEnds) (hmute : l'.muteEnds = l.muteEnds) : l'.inOrder := by
  obtain ⟨horder, hlength, hfailures, hmuted, -, hmuteEnds, hjoinWait, hempty⟩ := h
  unfold Link.inOrder
  rw [hqueue, hwire, hstate, hfail, hwait, hmute]
  exact ⟨horder, hlength, hfailures, hmuted, by simp, hmuteEnds, hjoinWait, hempty⟩

theorem State.startFrame_preserves : s.Preserves s.startFrame := by
  unfold State.startFrame
  split
  · next hmay =>
    have hjoined : s.link.state = .joined := by
      simp only [Link.mayStart, Bool.and_eq_true, beq_iff_eq] at hmay
      exact hmay.1.1
    unfold Link.startFrame
    split
    · next f rest hqueue =>
      refine State.setLink_preserves s rfl fun h => ?_
      obtain ⟨horder, hlength, hfail, hmuted, -, hmute, hwait, -⟩ := h
      rw [hqueue] at horder hlength
      exact ⟨(List.pairwise_cons.mp horder).2, by simp only [List.length_cons] at hlength; simp only; omega, hfail,
        hmuted, fun _ => hjoined, hmute, hwait, by simp [hjoined]⟩
    · exact State.setLink_preserves s rfl id
  · exact .refl s

/-- A frame that loses arbitration returns to the queue in order, unless a newer one of its topic waits (R12). -/
theorem Link.loseArbitration_inOrder {l : Link} {f : TxFrame} (h : l.inOrder) (hf : l.wire = some f) :
    (l.loseArbitration f).1.inOrder := by
  let off : Link :=
    { l with
      wire := none
      counters := { l.counters with arbitrationLosses := bump l.counters.arbitrationLosses } }
  have hoff : off.inOrder := Link.inOrder_of_clearWire h rfl rfl rfl rfl rfl rfl
  have haccepts : off.accepts := .inr (h.joined_of_wire hf)
  unfold Link.loseArbitration
  dsimp only
  split
  · exact hoff
  · next hnone => exact Link.enqueue_inOrder hoff haccepts (waitingOf_eq_none.mp hnone)

theorem Link.loseArbitration_state (l : Link) (f : TxFrame) : (l.loseArbitration f).1.state = l.state := by
  unfold Link.loseArbitration
  dsimp only
  split
  · rfl
  · exact (Link.enqueue_onlyOffers _ f).1

theorem State.arbitrate_preserves (key : Nat) : s.Preserves (s.arbitrate key) := by
  unfold State.arbitrate
  split
  · exact .refl s
  · next f hf =>
    split
    · exact (State.setLink_preserves s (Link.loseArbitration_state _ f) fun h =>
        Link.loseArbitration_inOrder h hf).trans (State.forget_preserves (s.setLink _) _)
    · exact .refl s

/-! ### Failures and the mute -/

/-- The link on entering MUTED: its queue flushed, the mute timer running to `ends` (R17). -/
def Link.mute (l : Link) (ends : Nat) : Link := { l.flush.1 with state := .muted, muteEnds := some ends }

theorem Link.mute_inOrder {l : Link} (ends : Nat) (hwire : l.wire = none) (hfail : l.failures = 16)
    (hwait : l.joinWaitEnds = none) : (l.mute ends).inOrder := by
  simp [Link.inOrder, Link.mute, Link.flush, hwire, hfail, hwait]

theorem State.enterMuted_inOrder (hwire : s.link.wire = none) (hfail : s.link.failures = 16)
    (hwait : s.link.joinWaitEnds = none) : s.enterMuted.link.inOrder :=
  State.setCondition_inOrder ((s.setLink _).setPublisher _) _ _ (Link.mute_inOrder _ hwire hfail hwait)

/-- Entering MUTED: LINK_MUTED becomes active with the state that shows it. -/
theorem State.enterMuted_keepsMonitor : s.KeepsMonitor s.enterMuted where
  copy h := State.setCondition_copyTrue ((s.setLink _).setPublisher _) _ _ h
  lamp h := State.setCondition_lampTrue ((s.setLink _).setPublisher _) _ _ h
  latched h := State.setCondition_activeLatched ((s.setLink _).setPublisher _) _ _ h
  marks f h := by
    refine State.setCondition_markTrue _ (fun hf => State.markTrue_congr (s := s) ?_ rfl h) ?_
    · cases f <;> first | rfl | exact absurd rfl hf
    · simp [State.shown]

theorem State.countFailure_keepsMonitor : s.KeepsMonitor s.countFailure := by
  have hcount : s.KeepsMonitor (s.setLink { s.link with failures := min 16 (s.link.failures + 1) }) :=
    ⟨id, id, fun f => State.markTrue_congr (by cases f <;> rfl) rfl, id⟩
  unfold State.countFailure
  dsimp only
  split
  · exact hcount.trans (State.enterMuted_keepsMonitor _)
  · exact hcount

theorem State.countFailure_inOrder (h : s.link.inOrder) (hjoined : s.link.state = .joined)
    (hwire : s.link.wire = none) : s.countFailure.link.inOrder := by
  obtain ⟨horder, hlength, -, -, -, hmute, hwait, hempty⟩ := h
  have hnowait : s.link.joinWaitEnds = none := by simpa [hjoined] using hwait
  unfold State.countFailure
  dsimp only
  split
  · next hsixteen => exact State.enterMuted_inOrder (s.setLink _) hwire (Nat.min_eq_left hsixteen) hnowait
  · next hfew =>
    have hne : min 16 (s.link.failures + 1) ≠ 16 := by omega
    exact ⟨horder, hlength, Nat.min_le_left _ _, by simp [hjoined, hne], by simp [hwire], hmute, hwait, hempty⟩

theorem State.setTrack_onlyOffers (c : Consumer) (t : Track) : s.link.onlyOffers (s.setTrack c t).link :=
  State.setCondition_onlyOffers (s.setPublisher _) _ _

theorem State.limitOutcome_onlyOffers (f : TxFrame) (o : TxOutcome) :
    s.link.onlyOffers (s.limitOutcome f o).link := by
  unfold State.limitOutcome
  dsimp only
  repeat' split
  · exact State.setTrack_onlyOffers (s.setPublisher _) _ _
  · exact Link.onlyOffers_refl _
  · exact Link.onlyOffers_refl _

/-- The outcome of the frame on the wire is reported by a running part, with its link in order, JOINED, and nothing on
the wire. -/
theorem State.limitOutcome_joined (h : s.linkInOrder) {f : TxFrame} (hf : s.link.wire = some f) {l : Link}
    (hl : l.inOrder) (hwire : l.wire = none) (hstate : l.state = s.link.state) (o : TxOutcome) :
    s.loader.phase = .running ∧ ((s.setLink l).limitOutcome f o).link.inOrder ∧
      ((s.setLink l).limitOutcome f o).link.state = .joined ∧
      ((s.setLink l).limitOutcome f o).link.wire = none := by
  have hjoined := h.1.joined_of_wire hf
  obtain ⟨kstate, kwire, -⟩ := State.limitOutcome_onlyOffers (s.setLink l) f o
  have hrunning : s.loader.phase = .running := by
    by_contra hp
    have hinactive := h.2 hp
    rw [hjoined] at hinactive
    cases hinactive
  have hout := (State.limitOutcome_preserves (s.setLink l) f o).link ⟨hl, fun hp => absurd hrunning hp⟩
  exact ⟨hrunning, hout.1, kstate.trans (hstate.trans hjoined), kwire.trans hwire⟩

/-- A frame fails: it is taken off the wire, its outcome is reported, and the failure counts (R14). -/
theorem State.fail_linkInOrder (h : s.linkInOrder) {f : TxFrame} (hf : s.link.wire = some f) {l : Link}
    (hl : l.inOrder) (hwire : l.wire = none) (hstate : l.state = s.link.state) (o : TxOutcome) :
    ((s.setLink l).limitOutcome f o).countFailure.linkInOrder := by
  obtain ⟨hrunning, hout, hjoined, hnone⟩ := State.limitOutcome_joined s h hf hl hwire hstate o
  refine ⟨State.countFailure_inOrder _ hout hjoined hnone, fun hp => ?_⟩
  rw [State.countFailure_loader, State.limitOutcome_loader] at hp
  exact absurd hrunning hp

/-- The failure count returns to 0 (R14). -/
theorem Link.inOrder.noFailures {l : Link} (h : l.inOrder) (hstate : l.state ≠ .muted) :
    ({ l with failures := 0 } : Link).inOrder := by
  obtain ⟨horder, hlength, -, -, hwire, hmute, hwait, hempty⟩ := h
  exact ⟨horder, hlength, Nat.zero_le _, by simp [hstate], hwire, hmute, hwait, hempty⟩

theorem State.afterDelivery_keepsMonitor : s.KeepsMonitor s.afterDelivery := by
  have hcount : s.KeepsMonitor (s.setLink { s.link with failures := 0 }) :=
    ⟨id, id, fun f => State.markTrue_congr (by cases f <;> rfl) rfl, id⟩
  exact hcount.trans (State.setCondition_preserves_hidden _ _ (by simp [State.shown])).toKeepsMonitor

/-- The link as a collision leaves it: the frame is off the wire and the part waits for idle (R8). -/
def Link.collide (l : Link) : Link :=
  { l with
    wire := none
    awaitingIdle := true
    counters := { l.counters with collided := bump l.counters.collided } }

/-- The link as an outcome read in the slot leaves it: the frame is off the wire and the outcome counted (R9). -/
def Link.endFrame (l : Link) (o : TxOutcome) : Link :=
  { l with wire := none, counters := l.counters.countSlot o }

theorem Link.collide_inOrder {l : Link} (h : l.inOrder) : l.collide.inOrder :=
  Link.inOrder_of_clearWire h rfl rfl rfl rfl rfl rfl

theorem Link.endFrame_inOrder {l : Link} (h : l.inOrder) (o : TxOutcome) : (l.endFrame o).inOrder :=
  Link.inOrder_of_clearWire h rfl rfl rfl rfl rfl rfl

theorem State.collide_eq {f : TxFrame} (hf : s.link.wire = some f) :
    s.collide =
      ((s.setLink s.link.collide).limitOutcome f .collided).countFailure.setCondition .stationClash true := by
  simp only [State.collide, hf]
  rfl

theorem State.slotRead_eq {f : TxFrame} (hf : s.link.wire = some f) (first second : Level) :
    s.slotRead first second =
      if slotOutcome first second = .delivered then
        ((s.setLink (s.link.endFrame (slotOutcome first second))).limitOutcome f
          (slotOutcome first second)).afterDelivery
      else
        ((s.setLink (s.link.endFrame (slotOutcome first second))).limitOutcome f
          (slotOutcome first second)).countFailure := by
  simp only [State.slotRead, hf]
  rfl

theorem State.collide_preserves : s.Preserves s.collide := by
  cases hf : s.link.wire with
  | none =>
    simp only [State.collide, hf]
    exact .refl s
  | some f =>
    have hoff : s.KeepsMonitor (s.setLink s.link.collide) :=
      ⟨id, id, fun f => State.markTrue_congr (by cases f <;> rfl) rfl, id⟩
    rw [State.collide_eq s hf]
    exact
      { toKeepsMonitor := ((hoff.trans (State.limitOutcome_preserves _ _ _).toKeepsMonitor).trans
          (State.countFailure_keepsMonitor _)).trans
          (State.setCondition_preserves_hidden _ _ (by simp [State.shown])).toKeepsMonitor
        link := fun h => State.setCondition_linkInOrder _ _ _
          (State.fail_linkInOrder s h hf (Link.collide_inOrder h.1) rfl rfl _) }

theorem State.slotRead_preserves (first second : Level) : s.Preserves (s.slotRead first second) := by
  cases hf : s.link.wire with
  | none =>
    simp only [State.slotRead, hf]
    exact .refl s
  | some f =>
    have hend : ∀ o, s.KeepsMonitor ((s.setLink (s.link.endFrame o)).limitOutcome f o) := fun o =>
      KeepsMonitor.trans (t := s.setLink (s.link.endFrame o))
        ⟨id, id, fun f => State.markTrue_congr (by cases f <;> rfl) rfl, id⟩
        (State.limitOutcome_preserves _ _ _).toKeepsMonitor
    rw [State.slotRead_eq s hf]
    split
    · refine ⟨(hend _).trans (State.afterDelivery_keepsMonitor _), fun h => ?_⟩
      obtain ⟨hrunning, hout, hjoined, -⟩ := State.limitOutcome_joined s h hf
        (Link.endFrame_inOrder h.1 (slotOutcome first second)) rfl rfl (slotOutcome first second)
      refine State.setCondition_linkInOrder (State.setLink _ _) _ _
        ⟨hout.noFailures (by simp [hjoined]), fun hp => ?_⟩
      rw [State.setLink_loader, State.limitOutcome_loader] at hp
      exact absurd hrunning hp
    · exact ⟨(hend _).trans (State.countFailure_keepsMonitor _), fun h =>
        State.fail_linkInOrder s h hf (Link.endFrame_inOrder h.1 _) rfl rfl _⟩

/-! ### The join wait and the mute period -/

/-- The link SILENT with its join wait begun, the heard marks cleared and PEERS_MISSING inactive (R15, R16, R35). -/
def State.beginWait (s : State) : State :=
  ((s.setLink { s.link with state := .silent, joinWaitEnds := some (s.now + joinWait) }).setTopics
    s.topics.clearHeard).setCondition .peersMissing false

theorem State.enterSilent_eq : s.enterSilent = if s.beginWait.joinCondition then s.beginWait.join else s.beginWait :=
  rfl

theorem State.beginWait_onlyOffers :
    ({ s.link with state := .silent, joinWaitEnds := some (s.now + joinWait) } : Link).onlyOffers
      s.beginWait.link :=
  State.setCondition_onlyOffers ((s.setLink _).setTopics _) _ _

theorem State.beginWait_linkState : s.beginWait.link.state = .silent := (State.beginWait_onlyOffers s).1

/-- A link that may enter SILENT: a queue in order, no full failure count, nothing on the wire, no mute timer. -/
def Link.mayWait (l : Link) : Prop :=
  inTopicOrder l.queue ∧ l.queue.length ≤ 4 ∧ l.failures < 16 ∧ l.wire = none ∧ l.muteEnds = none

theorem Link.mayWait.inOrder {l : Link} (h : l.mayWait) (ends : Nat) :
    ({ l with state := .silent, joinWaitEnds := some ends } : Link).inOrder := by
  obtain ⟨horder, hlength, hfail, hwire, hmute⟩ := h
  refine ⟨horder, hlength, hfail.le, ?_, ?_, ?_, ?_, ?_⟩
  · simp only [reduceCtorEq, iff_false]
    omega
  · simp [hwire]
  · simp [hmute]
  · simp
  · simp

theorem State.enterSilent_linkInOrder (hrunning : s.loader.phase = .running) (h : s.link.mayWait) :
    s.enterSilent.linkInOrder := by
  have hwait : s.beginWait.linkInOrder :=
    State.setCondition_linkInOrder ((s.setLink _).setTopics _) _ _
      ⟨h.inOrder _, fun hp => absurd hrunning hp⟩
  rw [State.enterSilent_eq]
  split
  · exact (State.join_preserves _ (State.beginWait_linkState s)).link hwait
  · exact hwait

/-- What entering SILENT leaves of the Monitor, LINK_MUTED being inactive. -/
theorem State.enterSilent_copyTrue (h : s.copyTrue) : s.enterSilent.copyTrue := by
  have hwait : s.beginWait.copyTrue := State.setCondition_copyTrue ((s.setLink _).setTopics _) _ _ h
  rw [State.enterSilent_eq]
  split
  · exact hwait
  · exact hwait

theorem State.enterSilent_lampTrue (h : s.lampTrue) : s.enterSilent.lampTrue := by
  have hwait : s.beginWait.lampTrue := State.setCondition_lampTrue ((s.setLink _).setTopics _) _ _ h
  rw [State.enterSilent_eq]
  split
  · exact hwait
  · exact hwait

theorem State.enterSilent_activeLatched (h : s.monitor.faults.activeLatched) :
    s.enterSilent.monitor.faults.activeLatched := by
  have hwait : s.beginWait.monitor.faults.activeLatched :=
    State.setCondition_activeLatched ((s.setLink _).setTopics _) _ _ h
  rw [State.enterSilent_eq]
  split
  · exact hwait
  · exact hwait

theorem State.enterSilent_markTrue {f : Fault12} (hf : f ≠ .linkMuted → s.markTrue f)
    (hmuted : s.conditionActive .linkMuted = false) : s.enterSilent.markTrue f := by
  have hwait : s.beginWait.markTrue f := by
    refine State.setCondition_markTrue _ (fun _ => ?_) (by simp [State.shown])
    by_cases h : f = .linkMuted
    · subst h
      rintro b ⟨⟩
      exact hmuted
    · refine State.markTrue_congr (s := s) ?_ rfl (hf h)
      cases f <;> first | rfl | exact absurd rfl h
  rw [State.enterSilent_eq]
  split
  · exact (State.join_preserves _ (State.beginWait_linkState s)).marks f hwait
  · exact hwait

/-- The end of the mute period: LINK_MUTED inactive, no failure, and the join wait begins (R17). -/
theorem State.muteExpired_preserves (hmuted : s.link.state = .muted) : s.Preserves s.muteExpired := by
  let u : State := s.setCondition .linkMuted false
  let v : State := u.setLink { u.link with failures := 0, muteEnds := none }
  have hactive : v.conditionActive .linkMuted = false := State.setCondition_active s _ _
  refine ⟨⟨fun h => ?_, fun h => ?_, fun f h => ?_, fun h => ?_⟩, fun h => ?_⟩
  · exact State.enterSilent_copyTrue v (State.setCondition_copyTrue s _ _ h)
  · exact State.enterSilent_lampTrue v (State.setCondition_lampTrue s _ _ h)
  · refine State.enterSilent_markTrue v (fun hf => ?_) hactive
    refine State.markTrue_congr (s := s) ?_ ?_ h
    · exact Eq.trans (by cases f <;> rfl) (congrFun (State.setCondition_shown s .linkMuted false) f)
    · exact (State.setCondition_conditionActive s _ _ f).trans (if_neg hf)
  · exact State.enterSilent_activeLatched v (State.setCondition_activeLatched s _ _ h)
  · have hu : u.linkInOrder := State.setCondition_linkInOrder s _ _ h
    have hustate : u.link.state = .muted := (State.setCondition_linkState s _ _).trans hmuted
    obtain ⟨⟨horder, hlength, -, -, hwire, -⟩, hphase⟩ := hu
    have hrunning : u.loader.phase = .running := by
      by_contra hp
      have := hphase hp
      rw [hustate] at this
      cases this
    refine State.enterSilent_linkInOrder v hrunning ⟨horder, hlength, Nat.zero_lt_succ 15, ?_, rfl⟩
    have hnone : u.link.wire = none := by simpa [hustate] using hwire
    exact hnone

/-- The join wait runs out in SILENT (R16). -/
theorem State.joinWaitExpired_preserves (h : s.link.state = .silent) : s.Preserves s.joinWaitExpired :=
  (State.join_preserves s h).trans (State.setCondition_preserves_hidden _ _ (by simp [State.shown]))

/-! ### The load -/

theorem State.poweredOn_linkInOrder (m : Memory) (p : List Instr) (d : Nat) :
    (State.poweredOn m p d).linkInOrder := by
  have hlink : Link.initial.inOrder := by unfold Link.inOrder; decide
  exact ⟨hlink, fun _ => rfl⟩

theorem State.poweredOn_copyTrue (m : Memory) (p : List Instr) (d : Nat) : (State.poweredOn m p d).copyTrue :=
  ⟨rfl, rfl, rfl, rfl, rfl⟩

theorem State.poweredOn_lampTrue (m : Memory) (p : List Instr) (d : Nat) : (State.poweredOn m p d).lampTrue := rfl

theorem State.poweredOn_markTrue (m : Memory) (p : List Instr) (d : Nat) (f : Fault12) :
    (State.poweredOn m p d).markTrue f := by
  intro b hb
  cases f <;> cases hb <;> rfl

theorem State.poweredOn_activeLatched (m : Memory) (p : List Instr) (d : Nat) :
    (State.poweredOn m p d).monitor.faults.activeLatched := by
  intro f hf
  cases f <;> cases hf

/-- Every invariant holds at the beginning of a power-on sequence, whatever the serial memory holds. -/
theorem State.poweredOn_preserves (m : Memory) (p : List Instr) (d : Nat) :
    s.Preserves (State.poweredOn m p d) where
  link _ := State.poweredOn_linkInOrder m p d
  copy _ := State.poweredOn_copyTrue m p d
  lamp _ := State.poweredOn_lampTrue m p d
  marks f _ := State.poweredOn_markTrue m p d f
  latched _ := State.poweredOn_activeLatched m p d

theorem State.fixProfile_running : s.fixProfile.loader.phase = .running := by
  simp [State.fixProfile]

/-- The running profile is fixed and its two conditions reported, PROFILE_FALLBACK as the loader then shows it
(R173, R183). -/
theorem State.fixProfile_preserves : s.Preserves s.fixProfile := by
  let image := s.loader.readImage
  let u : State := (s.setLoader ⟨.running, image, profileOf image, imageRejected image, none⟩).setResponder
    { s.responder with pendingImage := image }
  have hfallback : s.Preserves (u.setCondition .profileFallback (imageRejected image)) :=
    { link := fun h => State.setCondition_linkInOrder u _ _ ⟨h.1, fun hp => absurd rfl hp⟩
      copy := fun h => State.setCondition_copyTrue u _ _ h
      lamp := fun h => State.setCondition_lampTrue u _ _ h
      latched := fun h => State.setCondition_activeLatched u _ _ h
      marks := fun f h => State.setCondition_markTrue u
        (fun hf => State.markTrue_congr (s := s) (by cases f <;> first | exact absurd rfl hf | rfl) rfl h)
        (by simp [State.shown, u]) }
  exact hfallback.trans (State.setCondition_preserves_hidden _ _ (by simp [State.shown]))

theorem State.startTimers_monitor :
    s.startTimers.monitor = { s.monitor with ltStatusDue := some (s.now + ltStatusPeriod) } := rfl

theorem State.startTimers_publisher :
    s.startTimers.publisher = { s.publisher with gripStateDue := some (s.now + gripStatePeriod) } := rfl

theorem State.startTimers_drive :
    s.startTimers.drive = { s.drive with stepDue := some (s.now + stepPeriod) } := rfl

theorem State.startTimers_brake :
    s.startTimers.brake = { s.brake with stepDue := some (s.now + stepPeriod) } := rfl

theorem State.startTimers_preserves : s.Preserves s.startTimers where
  link h := by simpa [State.linkInOrder] using h
  copy h := by
    simpa [State.copyTrue, State.startTimers_monitor, State.startTimers_drive, State.startTimers_brake] using h
  lamp h := by
    rw [State.lampTrue, State.startTimers_monitor]
    exact h
  marks f := by
    have htrack : ∀ c, s.startTimers.publisher.track c = s.publisher.track c := by
      intro c
      rw [State.startTimers_publisher]
      cases c <;> rfl
    have hshown : s.startTimers.shown = s.shown :=
      State.shown_congr (by simp) (by simp) (by simp) (by simp [htrack]) (by simp)
    exact State.markTrue_congr (congrFun hshown f) (by rw [State.conditionActive, State.startTimers_monitor]; rfl)
  latched h := by
    rw [State.startTimers_monitor]
    exact h

/-- What follows the join wait at the completion of the load: the first load record, the timers, the first LT_STATUS
(R183). -/
theorem State.startBlocks_preserves :
    s.Preserves ((s.setSelector (s.selector.startMode s.profile)).recomputeLoad.startTimers).offerLtStatus :=
  ((State.Preserves.of_same (by simp)).trans (State.startTimers_preserves _)).trans
    (State.offerLtStatus_preserves _)

/-- The load completes with everything preserved, the link having been inactive until then (R15, R18, R183). -/
theorem State.loadComplete_linkInOrder (h : s.linkInOrder) (hphase : s.loader.phase ≠ .running) :
    s.loadComplete.linkInOrder := by
  let u : State := (s.setNow 0).fixProfile
  have hu : u.linkInOrder := (State.fixProfile_preserves (s.setNow 0)).link h
  have hstate : u.link.state = .inactive := by
    have hinactive : s.link.state = .inactive := h.2 hphase
    simpa [u, State.fixProfile] using hinactive
  obtain ⟨⟨horder, hlength, hfailures, hmuted, hwire, hmute, -⟩, -⟩ := hu
  rw [hstate] at hmuted hwire hmute
  refine (State.startBlocks_preserves u.enterSilent).link
    (State.enterSilent_linkInOrder u (State.fixProfile_running _) ⟨horder, hlength, ?_, ?_, ?_⟩)
  · have hne : u.link.failures ≠ 16 := by simpa using hmuted
    omega
  · simpa using hwire
  · simpa using hmute

theorem State.loadComplete_copyTrue (h : s.copyTrue) : s.loadComplete.copyTrue :=
  (State.startBlocks_preserves (s.setNow 0).fixProfile.enterSilent).copy
    (State.enterSilent_copyTrue _ ((State.fixProfile_preserves (s.setNow 0)).copy h))

theorem State.loadComplete_lampTrue (h : s.lampTrue) : s.loadComplete.lampTrue :=
  (State.startBlocks_preserves (s.setNow 0).fixProfile.enterSilent).lamp
    (State.enterSilent_lampTrue _ ((State.fixProfile_preserves (s.setNow 0)).lamp h))

theorem State.loadComplete_conditionsTrue (h : s.conditionsTrue) (hlink : s.linkInOrder)
    (hphase : s.loader.phase ≠ .running) : s.loadComplete.conditionsTrue := by
  let u : State := (s.setNow 0).fixProfile
  have hstate : u.link.state = .inactive := by
    have hinactive : s.link.state = .inactive := hlink.2 hphase
    simpa [u, State.fixProfile] using hinactive
  have hu : u.conditionsTrue := (State.fixProfile_preserves (s.setNow 0)).conditions h
  obtain ⟨hmarks, hlatched⟩ := (State.conditionsTrue_iff u).mp hu
  have hmuted : u.conditionActive .linkMuted = false := hmarks .linkMuted _ (by simp [State.shown, hstate])
  exact (State.startBlocks_preserves u.enterSilent).conditions ((State.conditionsTrue_iff _).mpr
    ⟨fun f => State.enterSilent_markTrue u (fun _ => hmarks f) hmuted, State.enterSilent_activeLatched u hlatched⟩)

end Sys2Proof.Machine
end

section
/-! The link controller and the Fault Monitor at every step: what each command preserves, and from it the two
step-lemma invariants (R7..R18, R172..R176). -/

namespace Sys2Proof.Machine

/-! ### One command -/

section

variable {s t : State}

theorem execFrameHeard_preserves {after : Nat} {bits : List Level} (h : execFrameHeard after bits s = .next t) :
    s.Preserves t := by
  cases h
  exact (State.Preserves.of_same (by simp)).trans (State.hearFrame_preserves (s.elapse after) bits)

theorem execFrameStart_preserves {after : Nat} (h : execFrameStart after s = .next t) : s.Preserves t := by
  cases h
  exact (State.Preserves.of_same (by simp)).trans (State.startFrame_preserves (s.elapse after))

theorem execArbitrationLoss_preserves {after key : Nat} (h : execArbitrationLoss after key s = .next t) :
    s.Preserves t := by
  cases h
  exact (State.Preserves.of_same (by simp)).trans (State.arbitrate_preserves (s.elapse after) key)

theorem execCollided_preserves {after : Nat} (h : execCollided after s = .next t) : s.Preserves t := by
  cases h
  exact (State.Preserves.of_same (by simp)).trans (State.collide_preserves (s.elapse after))

theorem execAckSlotRead_preserves {after : Nat} {first second : Level}
    (h : execAckSlotRead after first second s = .next t) : s.Preserves t := by
  cases h
  exact (State.Preserves.of_same (by simp)).trans (State.slotRead_preserves (s.elapse after) first second)

theorem execMediumIdle_preserves {after : Nat} (h : execMediumIdle after s = .next t) : s.Preserves t := by
  cases h
  exact (State.Preserves.of_same (by simp)).trans (State.setLink_preserves (s.elapse after) rfl id)

theorem execMuteExpiry_preserves (h : execMuteExpiry s = .next t) : s.Preserves t := by
  unfold execMuteExpiry at h
  split at h
  · next d hstate _ =>
    cases h
    exact (State.Preserves.of_same (by simp)).trans (State.muteExpired_preserves (s.until d) hstate)
  · cases h
    exact .refl s

theorem execJoinWaitExpiry_preserves (h : execJoinWaitExpiry s = .next t) : s.Preserves t := by
  unfold execJoinWaitExpiry at h
  split at h
  · next d hstate _ =>
    cases h
    exact (State.Preserves.of_same (by simp)).trans (State.joinWaitExpired_preserves (s.until d) hstate)
  · cases h
    exact .refl s

/-- An entry goes LATE from FRESH, so neither before nor after is it STALE (R30). -/
theorem execDeadlineExpiry_preserves {e : EntryName} (h : execDeadlineExpiry e s = .next t) : s.Preserves t := by
  unfold execDeadlineExpiry at h
  split at h
  · next d hdue =>
    cases h
    have hfresh : (s.topics.get e).freshness = .fresh := by
      simp only [State.deadlineDue] at hdue
      split at hdue
      · assumption
      · cases hdue
    refine State.Quiet.preserves_of_channels ⟨rfl, ?_, rfl, rfl, id⟩ ⟨rfl, rfl, rfl, rfl, rfl⟩
    funext f
    cases e
    case wheelSpeeds =>
      have hbefore : s.topics.wheelSpeeds.freshness = .fresh := hfresh
      cases f
      case speedLost => simp [State.shown, State.setEntry, Topics.set, Entry.deadline, hbefore]
      all_goals rfl
    all_goals cases f <;> rfl
  · cases h
    exact .refl s

theorem execStaleExpiry_preserves {e : EntryName} (h : execStaleExpiry e s = .next t) : s.Preserves t := by
  unfold execStaleExpiry at h
  split at h
  · next d _ =>
    cases h
    exact (State.Preserves.of_same (by simp)).trans (State.goStale_preserves (s.until d) e)
  · cases h
    exact .refl s

theorem execRegulationStep_preserves (h : execRegulationStep s = .next t) : s.Preserves t := by
  unfold execRegulationStep at h
  split at h
  · next d _ =>
    cases h
    have htimer : ∀ due, s.Preserves ((s.until d).setDrive { (s.until d).drive with stepDue := due }) := fun due =>
      State.Quiet.preserves_of_channels (.of_frame rfl rfl (by simp) rfl rfl) ⟨rfl, rfl, rfl, rfl, rfl⟩
    exact (htimer _).trans (State.regulationStep_preserves _)
  · cases h
    exact .refl s

theorem execBrakeStep_preserves (h : execBrakeStep s = .next t) : s.Preserves t := by
  unfold execBrakeStep at h
  split at h
  · next d _ =>
    cases h
    have htimer : ∀ due, s.Preserves ((s.until d).setBrake { (s.until d).brake with stepDue := due }) := fun due =>
      State.Quiet.preserves_of_channels (.of_frame rfl rfl (by simp) rfl rfl) ⟨rfl, rfl, rfl, rfl, rfl⟩
    exact (htimer _).trans (State.brakeStep_preserves _)
  · cases h
    exact .refl s

theorem execGripState_preserves (h : execGripState s = .next t) : s.Preserves t := by
  unfold execGripState at h
  split at h
  · next d _ =>
    cases h
    have htimer : ∀ due, s.Preserves ((s.until d).setPublisher { (s.until d).publisher with gripStateDue := due }) :=
      fun due => State.Quiet.preserves_of_channels
        (.of_frame rfl rfl (by intro c; cases c <;> rfl) rfl rfl) ⟨rfl, rfl, rfl, rfl, rfl⟩
    exact (htimer _).trans (State.offer_preserves _ _ _)
  · cases h
    exact .refl s

theorem execEchoDeadlineExpiry_preserves {c : Consumer} (h : execEchoDeadlineExpiry c s = .next t) :
    s.Preserves t := by
  unfold execEchoDeadlineExpiry at h
  split at h
  · next e _ _ =>
    cases h
    exact (State.Preserves.of_same (by simp)).trans
      (State.setTrack_preserves (s.until (e.deliveredAt + echoDeadline)) c _)
  · cases h
    exact .refl s

/-- The end of an assertion leaves the running period (R163). -/
theorem execAssertionEndExpiry_preserves (h : execAssertionEndExpiry s = .next t) : s.Preserves t := by
  unfold execAssertionEndExpiry at h
  split at h
  · cases h
    exact State.Quiet.preserves_of_channels (.of_frame rfl rfl (by simp) rfl rfl) ⟨rfl, rfl, rfl, rfl, rfl⟩
  · cases h
    exact .refl s

theorem execCutPeriodExpiry_preserves (h : execCutPeriodExpiry s = .next t) : s.Preserves t := by
  unfold execCutPeriodExpiry at h
  split at h
  · next r _ =>
    cases h
    have hquiet : ∀ d g, s.Quiet ((s.until d).setGenerator g) := fun d g => .of_frame rfl rfl (by simp) rfl rfl
    exact (hquiet _ _).tellCut rfl rfl
  · cases h
    exact .refl s

theorem execLtStatus_preserves (h : execLtStatus s = .next t) : s.Preserves t := by
  unfold execLtStatus at h
  split at h
  · next d _ =>
    cases h
    have htimer : ∀ due, s.Preserves ((s.until d).setMonitor { (s.until d).monitor with ltStatusDue := due }) :=
      fun due => ⟨⟨id, id, fun f => State.markTrue_congr (by cases f <;> rfl) rfl, id⟩, id⟩
    exact (htimer _).trans (State.offerLtStatus_preserves _)
  · cases h
    exact .refl s

theorem execStorePageTimeout_preserves (h : execStorePageTimeout s = .next t) : s.Preserves t := by
  unfold execStorePageTimeout at h
  repeat' split at h
  all_goals cases h
  · next st _ p d _ =>
    exact (State.Preserves.of_same (by simp)).trans
      (State.finishStore_preserves ((s.until (d + pageWait)).spoilPage p) _ false)
  · exact .refl s
  · exact .refl s

/-- The loader changes in neither phase nor fallback mark, and no other part that the Monitor looks at changes. -/
theorem State.Preserves.of_loader (hloader : t.loader.phase = s.loader.phase ∧ t.loader.fallback = s.loader.fallback)
    (h : t.link = s.link ∧ t.publisher = s.publisher ∧ t.topics = s.topics ∧ t.drive = s.drive ∧ t.brake = s.brake ∧
      t.generator = s.generator ∧ t.monitor = s.monitor) : s.Preserves t := by
  obtain ⟨hphase, hfallback⟩ := hloader
  obtain ⟨hlink, hpub, htopics, hdrive, hbrake, hgen, hm⟩ := h
  exact State.Quiet.preserves_of_channels
    ⟨hphase, State.shown_congr hphase hfallback (by rw [hlink]) (by simp [hpub]) (by rw [htopics]), hm, by rw [hlink],
      by rw [hlink]; exact id⟩
    ⟨by rw [hdrive], by rw [hdrive], by rw [hbrake], by rw [hbrake], by rw [hgen]⟩

theorem State.takeBurst_preserves (s : State) (k : Nat) (min : Option (List Byte)) : s.Preserves (s.takeBurst k min) :=
  .of_loader ⟨rfl, rfl⟩ (by simp)

theorem State.pageDone_preserves (s : State) (st : Store) (page : Nat) : s.Preserves (s.pageDone st page) := by
  refine .of_loader ?_ (by simp)
  unfold State.pageDone
  dsimp only
  split <;> exact ⟨rfl, rfl⟩

theorem execStorePageDone_preserves {after : Nat} (h : execStorePageDone after s = .next t) : s.Preserves t := by
  have htime : s.Preserves (s.elapse after) := .of_same (by simp)
  unfold execStorePageDone at h
  dsimp only at h
  repeat' split at h
  all_goals cases h
  · exact htime.trans (State.pageDone_preserves _ _ _)
  all_goals exact htime

theorem execStorePageBurstEnd_preserves {after : Nat} (h : execStorePageBurstEnd after s = .next t) :
    s.Preserves t := by
  unfold execStorePageBurstEnd at h
  dsimp only at h
  repeat' split at h
  all_goals
    cases h
    exact .of_same (by simp)

theorem execStoreReadbackComplete_preserves {after : Nat} {min : Option (List Byte)}
    (h : execStoreReadbackComplete after min s = .next t) : s.Preserves t := by
  have htime : s.Preserves (s.elapse after) := .of_same (by simp)
  unfold execStoreReadbackComplete at h
  dsimp only at h
  repeat' split at h
  all_goals cases h
  · exact (htime.trans (State.takeBurst_preserves _ 3 min)).trans (State.finishStore_preserves _ _ _)
  all_goals exact htime

/-- A read burst of a load leaves the part loading (R180). -/
theorem execReadBurstEnd_preserves {after : Nat} {min : Option (List Byte)}
    (h : execReadBurstEnd after min s = .next t) : s.Preserves t := by
  have htime : s.Preserves (s.elapse after) := .of_same (by simp)
  unfold execReadBurstEnd at h
  dsimp only at h
  repeat' split at h
  all_goals cases h
  · next n hphase _ =>
    have hload : s.loader.phase ≠ .running := by
      rw [State.elapse_loader] at hphase
      simp [hphase]
    refine htime.trans ⟨⟨id, id, fun f => ?_, id⟩, fun hs => ⟨hs.1, fun _ => hs.2 hload⟩⟩
    refine State.markTrue_congr ?_ rfl
    cases f
    case profileFallback => simp [State.shown, hload]
    all_goals rfl
  · exact htime
  · next st _ _ n _ _ =>
    exact htime.trans ((State.takeBurst_preserves (s.elapse after) n min).trans (.of_same (by simp)))
  all_goals exact htime

end

/-- What one command does to the invariants of the link and of the Monitor: it preserves them, or it is the fourth
burst of a load, which completes it. -/
theorem exec_preserves {s t : State} {c : Instr} (h : exec c s = .next t) :
    s.Preserves t ∨ ∃ u, s.Preserves u ∧ u.loader.phase = .loading 3 ∧ t = u.loadComplete := by
  cases c with
  | profileLoadComplete min =>
    unfold exec execProfileLoadComplete at h
    dsimp only at h
    split at h
    · next hphase =>
      cases h
      exact .inr ⟨s.takeBurst 3 min, State.takeBurst_preserves s 3 min, hphase, rfl⟩
    · cases h
      exact .inl (.refl s)
  | powerOn =>
    cases h
    exact .inl (State.poweredOn_preserves s _ _ _)
  | frameHeard after bits => exact .inl (execFrameHeard_preserves h)
  | frameStart after => exact .inl (execFrameStart_preserves h)
  | arbitrationLoss after key => exact .inl (execArbitrationLoss_preserves h)
  | collided after => exact .inl (execCollided_preserves h)
  | ackSlotRead after first second => exact .inl (execAckSlotRead_preserves h)
  | muteExpiry => exact .inl (execMuteExpiry_preserves h)
  | joinWaitExpiry => exact .inl (execJoinWaitExpiry_preserves h)
  | deadlineExpiry e => exact .inl (execDeadlineExpiry_preserves h)
  | staleExpiry e => exact .inl (execStaleExpiry_preserves h)
  | regulationStep => exact .inl (execRegulationStep_preserves h)
  | brakeStep => exact .inl (execBrakeStep_preserves h)
  | gripState => exact .inl (execGripState_preserves h)
  | echoDeadlineExpiry c => exact .inl (execEchoDeadlineExpiry_preserves h)
  | assertionEndExpiry => exact .inl (execAssertionEndExpiry_preserves h)
  | cutPeriodExpiry => exact .inl (execCutPeriodExpiry_preserves h)
  | ltStatus => exact .inl (execLtStatus_preserves h)
  | storePageBurstEnd after => exact .inl (execStorePageBurstEnd_preserves h)
  | storePageDone after => exact .inl (execStorePageDone_preserves h)
  | storePageTimeout => exact .inl (execStorePageTimeout_preserves h)
  | storeReadbackComplete after min => exact .inl (execStoreReadbackComplete_preserves h)
  | mediumIdle after => exact .inl (execMediumIdle_preserves h)
  | readBurstEnd after min => exact .inl (execReadBurstEnd_preserves h)
  | atRestExpiry | baseValidityExpiry | reliefExpiry | windowExpiry =>
    simp only [exec, execAtRestExpiry, execBaseValidityExpiry, execReliefExpiry, execWindowExpiry] at h
    split at h
    all_goals
      cases h
      exact .inl (.of_same (by simp))

/-! ### One step -/

/-- A step is a command's meaning, or a tenth of a millisecond in which nothing happens: what the queue's change, that
moment and every command keep, every step keeps. -/
theorem step_keeps {P : State → Prop} (hqueue : ∀ s q, P s → P (s.setPending q)) (htime : ∀ s, P s → P (s.elapse 1))
    (hexec : ∀ c s t, P s → exec c s = .next t → P t) {s t : State} (hs : P s) (h : step s = .next t) : P t := by
  unfold step at h
  split at h
  · next c rest _ => exact hexec c _ t (hqueue s rest hs) h
  · unfold idle at h
    split at h
    · next c _ => exact hexec c s t hs h
    · cases h
      exact htime s hs

theorem State.setPending_preserves (s : State) (q : List Instr) : s.Preserves (s.setPending q) := .of_same (by simp)

theorem State.elapse_preserves (s : State) (dt : Nat) : s.Preserves (s.elapse dt) := .of_same (by simp)

theorem exec_linkInOrder {c : Instr} {s t : State} (hs : s.linkInOrder) (h : exec c s = .next t) :
    t.linkInOrder := by
  rcases exec_preserves h with ht | ⟨u, hu, hphase, rfl⟩
  · exact ht.link hs
  · exact State.loadComplete_linkInOrder u (hu.link hs) (by simp [hphase])

theorem exec_copyTrue_lampTrue {c : Instr} {s t : State} (hs : s.copyTrue ∧ s.lampTrue)
    (h : exec c s = .next t) : t.copyTrue ∧ t.lampTrue := by
  obtain ⟨hcopy, hlamp⟩ := hs
  rcases exec_preserves h with ht | ⟨u, hu, -, rfl⟩
  · exact ⟨ht.copy hcopy, ht.lamp hlamp⟩
  · exact ⟨State.loadComplete_copyTrue u (hu.copy hcopy), State.loadComplete_lampTrue u (hu.lamp hlamp)⟩

theorem exec_conditionsTrue {c : Instr} {s t : State} (hs : s.linkInOrder ∧ s.conditionsTrue)
    (h : exec c s = .next t) : t.linkInOrder ∧ t.conditionsTrue := by
  refine ⟨exec_linkInOrder hs.1 h, ?_⟩
  rcases exec_preserves h with ht | ⟨u, hu, hphase, rfl⟩
  · exact ht.conditions hs.2
  · exact State.loadComplete_conditionsTrue u (hu.conditions hs.2) (hu.link hs.1) (by simp [hphase])

/-- Settles O25: the commands one by one, the load and the mute period through the link's own entry into SILENT. -/
theorem linkStaysInOrder : Obligations.LinkStaysInOrder := by
  intro s t hs h
  exact step_keeps (P := State.linkInOrder) (fun s q => (s.setPending_preserves q).link)
    (fun s => (s.elapse_preserves 1).link) (fun _ _ _ => exec_linkInOrder) hs h

/-- Settles O60: the copy and the lamp hold in every state, the standing conditions under the link's order, which
tells that no load completes with the link MUTED. -/
theorem monitorStaysTrue : Obligations.MonitorStaysTrue := by
  constructor
  · intro s t hcopy hlamp h
    exact step_keeps (P := fun s => s.copyTrue ∧ s.lampTrue)
      (fun s q hs => ⟨(s.setPending_preserves q).copy hs.1, (s.setPending_preserves q).lamp hs.2⟩)
      (fun s hs => ⟨(s.elapse_preserves 1).copy hs.1, (s.elapse_preserves 1).lamp hs.2⟩)
      (fun _ _ _ => exec_copyTrue_lampTrue) ⟨hcopy, hlamp⟩ h
  · intro s t hlink hconditions h
    exact (step_keeps (P := fun s => s.linkInOrder ∧ s.conditionsTrue)
      (fun s q hs => ⟨(s.setPending_preserves q).link hs.1, (s.setPending_preserves q).conditions hs.2⟩)
      (fun s hs => ⟨(s.elapse_preserves 1).link hs.1, (s.elapse_preserves 1).conditions hs.2⟩)
      (fun _ _ _ => exec_conditionsTrue) ⟨hlink, hconditions⟩ h).2

end Sys2Proof.Machine
end

section
/-! The commands of the link controller and the offers to its queue (R3..R17, R192). -/

namespace Sys2Proof.Machine

/-! ### A frame starts -/

theorem State.startFrame_eq {s : State} {f : TxFrame} {rest : List TxFrame} (hstate : s.link.state = .joined)
    (hwire : s.link.wire = none) (hidle : s.link.awaitingIdle = false) (hqueue : s.link.queue = f :: rest) :
    s.startFrame = s.setLink { s.link with wire := some f, queue := rest } := by
  simp [State.startFrame, Link.mayStart, Link.startFrame, hstate, hwire, hidle, hqueue]

/-- Settles O16: the pins read the frame on the wire; FRAME_START takes the head of a queue in topic order. -/
theorem framesStartAtIdle : Obligations.FramesStartAtIdle := by
  refine ⟨fun s => ⟨fun h => ?_, fun f h => ?_⟩, fun after s => ⟨fun f rest hstate hwire hidle hqueue => ⟨?_, ?_⟩, rfl⟩⟩
  · simp [State.pins, h]
  · simp only [State.pins, h, Option.map_some]
    rfl
  · exact congrArg Host.Outcome.next
      (State.startFrame_eq (s := s.elapse after) hstate hwire hidle hqueue)
  · intro horder
    have hrise := horder.1
    rw [hqueue] at hrise
    exact (List.pairwise_cons.mp hrise).1

/-! ### A lost arbitration -/

/-- The link with the frame that lost arbitration off the wire and the loss counted. -/
def Link.lose (l : Link) : Link :=
  { l with
    wire := none
    counters := { l.counters with arbitrationLosses := bump l.counters.arbitrationLosses } }

theorem Link.loseArbitration_of_waiting {l : Link} {f g : TxFrame} (h : waitingOf l.queue f.topic = some g) :
    l.loseArbitration f = (l.lose.countSuperseded, [⟨f.topic, some f.seq, .superseded⟩]) := by
  simp [Link.loseArbitration, h, Link.lose]

theorem Link.loseArbitration_of_none {l : Link} {f : TxFrame} (h : ∀ g ∈ l.queue, g.topic ≠ f.topic) :
    l.loseArbitration f = l.lose.enqueue f := by
  simp [Link.loseArbitration, waitingOf_eq_none.mpr h, Link.lose]

/-- After a lost arbitration the frame has at most joined the queue again. -/
theorem Link.loseArbitration_onlyOffers (l : Link) (f : TxFrame) :
    l.lose.onlyOffers (l.loseArbitration f).1 ∧ (l.loseArbitration f).1.seqs = l.seqs := by
  by_cases h : ∀ g ∈ l.queue, g.topic ≠ f.topic
  · rw [Link.loseArbitration_of_none h]
    exact ⟨Link.enqueue_onlyOffers _ _, Link.enqueue_seqs _ _⟩
  · obtain ⟨g, hg⟩ := Option.ne_none_iff_exists'.mp (mt waitingOf_eq_none.mp h)
    rw [Link.loseArbitration_of_waiting hg]
    exact ⟨⟨rfl, rfl, rfl, rfl, rfl, rfl, rfl, rfl⟩, rfl⟩

theorem State.arbitrate_eq {s : State} {f : TxFrame} (hf : s.link.wire = some f) {key : Nat}
    (hkey : key < priorityKey f.topic.number s.profile.ownStation) :
    s.arbitrate key =
      (s.setLink (s.link.loseArbitration f).1).setPublisher (s.publisher.forget (s.link.loseArbitration f).2) := by
  simp only [State.arbitrate, hf, if_pos hkey]

/-- Settles O17: by whether a newer frame of the topic waits, and then by the room in the queue. -/
theorem lostArbitrationReturnsTheFrame : Obligations.LostArbitrationReturnsTheFrame := by
  intro after key s f hf hkey horder
  have hlower : key < priorityKey f.topic.number s.profile.ownStation := by
    rw [priorityKey, Nat.mul_comm]
    exact hkey
  obtain ⟨⟨kstate, kwire, kfail, -, -, -, -, kcounters⟩, kseqs⟩ := Link.loseArbitration_onlyOffers s.link f
  refine ⟨_, congrArg Host.Outcome.next (State.arbitrate_eq (s := s.elapse after) hf hlower), rfl, kwire, kstate, kfail,
    kseqs, ?_, Link.loseArbitration_inOrder horder hf, ?_, ?_, ?_, ⟨rfl, rfl, rfl⟩, ?_⟩
  · exact congrArg LinkCounters.arbitrationLosses kcounters
  · rintro ⟨g, hg, ht⟩
    have hwaits := waitingOf_of_mem horder.1 hg
    rw [ht] at hwaits
    have hlose := congrArg Prod.fst (Link.loseArbitration_of_waiting hwaits)
    have hqueue := congrArg Link.queue hlose
    have hcount := congrArg (fun l => l.counters.superseded) hlose
    exact ⟨hqueue, hcount⟩
  · intro hnew hroom
    have hperm := Link.enqueue_room_perm (l := s.link.lose) f hroom
    rw [← Link.loseArbitration_of_none hnew] at hperm
    exact hperm
  · intro hnew hfull
    have hperm := Link.enqueue_full_perm (l := s.link.lose) horder.1 hnew hfull
    rw [← Link.loseArbitration_of_none hnew] at hperm
    exact hperm
  · intro p hp
    cases p <;> first | rfl | exact absurd (by decide) hp

/-! ### Offers -/

/-- Settles O24: by the link state, then by whether a frame of the topic waits, then by the room in the queue. -/
theorem offersTakeTheNextSequence : Obligations.OffersTakeTheNextSequence := by
  intro s topic payload horder
  have hlink := State.offer_link s topic payload
  refine ⟨State.offer_onlyOffers s _ _, State.offer_inOrder s _ _ horder, ?_, fun hstate => ?_, fun hstate => ?_,
    fun haccepts => ?_⟩
  · intro p hp
    cases p <;> first | rfl | exact absurd (by decide) hp
  · rw [hlink, Link.offer_of_inactive _ _ hstate]
  · rw [hlink, Link.offer_of_muted _ _ hstate]
    exact ⟨horder.queue_eq_nil (.inl hstate), rfl, rfl⟩
  · have hseqs : (s.link.offer topic payload).1.seqs = s.link.seqs.set topic (s.link.seqs.get topic + 1) := by
      by_cases hnew : ∀ g ∈ s.link.queue, g.topic ≠ topic
      · rw [Link.offer_of_new payload haccepts hnew, Link.enqueue_seqs]
        rfl
      · obtain ⟨old, hold⟩ := Option.ne_none_iff_exists'.mp (mt waitingOf_eq_none.mp hnew)
        rw [Link.offer_of_waiting payload haccepts hold]
        rfl
    rw [hlink]
    refine ⟨?_, ?_, ?_, ?_, ?_⟩
    · rw [hseqs, SeqCounters.get_set_self]
    · intro other hother
      rw [hseqs, SeqCounters.get_set_other _ _ hother]
    · intro g hg ht
      have hold := waitingOf_of_mem horder.1 hg
      rw [ht] at hold
      rw [Link.offer_of_waiting payload haccepts hold]
      exact ⟨replaceFrame_perm horder.1 hg ht, rfl⟩
    · intro hnew hroom
      rw [Link.offer_of_new payload haccepts hnew, Link.enqueue_superseded]
      obtain ⟨hperm, hdropped⟩ := Link.enqueue_room_perm (l := s.link.takeSeq topic)
        ⟨topic, s.link.seqs.get topic + 1, payload⟩ hroom
      exact ⟨hperm, rfl, hdropped⟩
    · intro hnew hfull
      rw [Link.offer_of_new payload haccepts hnew]
      exact Link.enqueue_full_perm (l := s.link.takeSeq topic) horder.1 hnew hfull

end Sys2Proof.Machine
end

section
/-! The waits of the link and the frames it hears (R4..R6, R15..R17). -/

namespace Sys2Proof.Machine

/-! ### Entering SILENT -/

@[simp] theorem Topics.get_clearHeard (t : Topics) (e : EntryName) :
    t.clearHeard.get e = { t.get e with heard := false } := by
  cases e <;> rfl

theorem State.beginWait_joinCondition (s : State) :
    s.beginWait.joinCondition = EntryName.all.all fun e => !(s.binding e).required := by
  have htopics : s.beginWait.topics = s.topics.clearHeard := by simp [State.beginWait]
  have hbinding : ∀ e, s.beginWait.binding e = s.binding e := by
    intro e
    simp [State.binding, State.profile, State.beginWait]
  simp [State.joinCondition, htopics, hbinding]

theorem EntryName.mem_all (e : EntryName) : e ∈ EntryName.all := by cases e <;> decide

theorem State.enterSilent_of_required {s : State} (h : ∃ e, (s.binding e).required = true) :
    s.enterSilent = s.beginWait := by
  obtain ⟨e, he⟩ := h
  rw [State.enterSilent_eq, State.beginWait_joinCondition, if_neg]
  rw [List.all_eq_true]
  intro hall
  have := hall e (EntryName.mem_all e)
  rw [he] at this
  cases this

theorem State.enterSilent_of_none {s : State} (h : ∀ e, (s.binding e).required = false) :
    s.enterSilent = s.beginWait.join := by
  rw [State.enterSilent_eq, State.beginWait_joinCondition, if_pos]
  simp [h]

/-- What entering SILENT does whether or not the link joins at once. -/
theorem State.enterSilent_spec (s : State) :
    s.enterSilent.link.failures = s.link.failures ∧ s.enterSilent.link.muteEnds = s.link.muteEnds ∧
      s.enterSilent.topics = s.topics.clearHeard ∧ s.publisher.onlyAwaits s.enterSilent.publisher ∧
      ∀ g, s.enterSilent.conditionActive g = if g = .peersMissing then false else s.conditionActive g := by
  obtain ⟨-, -, kfail, -, kmute, -⟩ := State.beginWait_onlyOffers s
  have hspec : s.beginWait.link.failures = s.link.failures ∧ s.beginWait.link.muteEnds = s.link.muteEnds ∧
      s.beginWait.topics = s.topics.clearHeard ∧ s.publisher.onlyAwaits s.beginWait.publisher ∧
      ∀ g, s.beginWait.conditionActive g = if g = .peersMissing then false else s.conditionActive g :=
    ⟨kfail, kmute, by simp [State.beginWait], State.setCondition_onlyAwaits ((s.setLink _).setTopics _) _ _,
      State.setCondition_conditionActive ((s.setLink _).setTopics _) _ _⟩
  rw [State.enterSilent_eq]
  split <;> exact hspec

/-- Settles O21: MUTE_EXPIRY through the entry into SILENT, with and without a required entry; JOIN_WAIT_EXPIRY by
the report of PEERS_MISSING in a link that has joined. -/
theorem muteAndJoinWaitRunOut : Obligations.MuteAndJoinWaitRunOut := by
  intro s d
  constructor
  · intro hstate hends
    let u : State := (s.until d).setCondition .linkMuted false
    let v : State := u.setLink { u.link with failures := 0, muteEnds := none }
    have hexec : exec .muteExpiry s = .next v.enterSilent := by
      simp only [exec, execMuteExpiry, hstate, hends]
      rfl
    obtain ⟨hfail, hmute, htopics, hawaits, hactive⟩ := State.enterSilent_spec v
    have hnow : v.now = max s.now d := State.setCondition_now _ _ _
    have hbinding : ∀ e, v.binding e = s.binding e := by
      intro e
      simp [State.binding, State.profile, v, u]
    have hmuted : v.conditionActive .linkMuted = false := State.setCondition_active _ _ _
    refine ⟨_, hexec, by rw [State.enterSilent_now, hnow], hfail, hmute, by rw [hactive]; exact hmuted,
      by rw [hactive]; rfl, fun e => ?_, fun hrequired => ?_, fun hnone => ?_,
      Publisher.onlyAwaits_trans (State.setCondition_onlyAwaits (s.until d) _ _) hawaits, ?_⟩
    · rw [htopics, Topics.get_clearHeard]
      simp [v, u]
    · obtain ⟨kstate, -, -, kwait, -⟩ := State.beginWait_onlyOffers v
      rw [State.enterSilent_now, State.enterSilent_of_required (s := v) (by simpa only [hbinding] using hrequired)]
      exact ⟨kstate, kwait⟩
    · rw [State.enterSilent_of_none (s := v) (by simpa only [hbinding] using hnone)]
      exact ⟨rfl, rfl⟩
    · intro p hp
      cases p <;> simp_all [State.agreesOn, v, u]
  · intro hstate hends
    have hexec : exec .joinWaitExpiry s = .next (s.until d).joinWaitExpired := by
      simp only [exec, execJoinWaitExpiry, hstate, hends]
    obtain ⟨kstate, -, -, kwait, -⟩ := State.setCondition_onlyOffers (s.until d).join .peersMissing true
    refine ⟨_, hexec, by rw [State.joinWaitExpired_now]; rfl, kstate, kwait,
      State.setCondition_onlyFault (s.until d).join _ _, State.setCondition_onlyAwaits (s.until d).join _ _, ?_⟩
    intro p hp
    cases p <;> simp_all [State.agreesOn]

/-! ### Frames heard -/

theorem Link.hears_iff (l : Link) :
    l.hears = true ↔ l.state ≠ .inactive ∧ l.wire = none ∧ l.awaitingIdle = false := by
  simp [Link.hears, and_assoc]

theorem State.hearFrame_eq {s : State} (h : s.link.hears = true) (bits : List Level) :
    s.hearFrame bits = (s.clashTest (parseFrame bits)).receive (parseFrame bits) := by
  simp only [State.hearFrame, if_pos h]

theorem State.clashTest_of_own {s : State} {h : Heard} (hown : h.sender? = some s.profile.ownStation) :
    s.clashTest h = s.setCondition .stationClash true := if_pos hown

theorem State.clashTest_of_other {s : State} {h : Heard} (hother : h.sender? ≠ some s.profile.ownStation) :
    s.clashTest h = s := if_neg hother

/-- A condition that becomes active is latched (R172). -/
theorem State.setCondition_latched {s : State} {f : Fault12} (h : s.conditionActive f = false) :
    ((s.setCondition f true).monitor.faults.get f).latched = true := by
  have hinactive : (s.monitor.faults.get f).active = false := h
  rw [State.setCondition, if_neg (by rw [h]; decide), State.report_faults, FaultSet.get_set_self]
  simp [FaultMark.reported, hinactive]

theorem State.setCondition_of_same {s : State} {f : Fault12} {b : Bool} (h : s.conditionActive f = b) :
    s.setCondition f b = s := if_pos h

theorem State.agreesOn_trans {s t u : State} {p : Part} (h : s.agreesOn t p) (k : t.agreesOn u p) :
    s.agreesOn u p := by
  cases p <;> exact Eq.trans k h

theorem State.onlyChanges_trans {s t u : State} {ps : List Part} (h : s.onlyChanges t ps) (k : t.onlyChanges u ps) :
    s.onlyChanges u ps := fun p hp => State.agreesOn_trans (h p hp) (k p hp)

theorem State.setCondition_onlyChanges (s : State) (f : Fault12) (b : Bool) :
    s.onlyChanges (s.setCondition f b) [.link, .publisher, .monitor] := by
  intro p hp
  cases p <;> simp_all [State.agreesOn]

/-- A payload error is rejected while JOINED, and nothing is driven otherwise (R5). -/
theorem State.discardPayload_eq {s : State} {state : LinkState} (h : s.link.state = state) :
    s.discardPayload =
      s.setLink
        { s.link with
          slotDrive := if state = .joined then .reject else .nothing
          counters := { s.link.counters with payloadErrors := bump s.link.counters.payloadErrors } } := by
  subst h
  rfl

/-- Settles O22: the frame is judged by what the parse makes of it, the clash test coming first. -/
theorem damagedFramesAreDiscarded : Obligations.DamagedFramesAreDiscarded := by
  intro after bits s hhears heard clash headerError payloadError
  have hexec : exec (.frameHeard after bits) s =
      .next ((heard.clashTest (parseFrame bits)).receive (parseFrame bits)) :=
    congrArg Host.Outcome.next (State.hearFrame_eq (s := s.elapse after) hhears bits)
  have hclash : clash.link.state = s.link.state := State.setCondition_linkState heard _ _
  have hother : ∀ h sn, h.sender? = some sn → sn ≠ s.profile.ownStation → heard.clashTest h = heard := by
    intro h sn hh hne
    exact State.clashTest_of_other (hh ▸ fun hsn => hne (Option.some.inj hsn))
  have hown : ∀ h sn, h.sender? = some sn → sn = s.profile.ownStation → heard.clashTest h = clash := by
    intro h sn hh hsn
    exact State.clashTest_of_own (hh.trans (congrArg some hsn))
  refine ⟨fun hparse => ?_, fun sn hparse => ⟨fun hne => ?_, fun heq => ?_⟩, fun sn hparse => ⟨fun hne => ?_, fun heq => ?_⟩,
    State.setCondition_onlyFault heard _ _, fun h => State.setCondition_latched (s := heard) h,
    fun h => State.setCondition_of_same (s := heard) h, State.setCondition_onlyOffers heard _ _,
    State.setCondition_onlyAwaits heard _ _, ?_⟩
  · rw [hexec, hparse]
    rfl
  · rw [hexec, hparse, hother _ sn rfl hne]
    rfl
  · rw [hexec, hparse, hown _ sn rfl heq]
    rfl
  · rw [hexec, hparse, hother _ sn rfl hne]
    rfl
  · rw [hexec, hparse, hown _ sn rfl heq]
    exact congrArg Host.Outcome.next (State.discardPayload_eq hclash)
  · intro p hp
    cases p <;> simp_all [State.agreesOn, clash, heard]

/-- ACCEPT is driven while JOINED, and nothing otherwise (R5). -/
theorem State.driveSlot_eq {s : State} {state : LinkState} (h : s.link.state = state) :
    s.driveSlot (s.link.slotFor true) =
      s.setLink { s.link with slotDrive := if state = .joined then .accept else .nothing } := by
  subst h
  rfl

theorem State.handOver_of_bound {s : State} {f : Frame} (h : s.boundEntries f.topic ≠ []) :
    s.handOver f = s.offerEntries f (s.boundEntries f.topic) := by
  unfold State.handOver
  split
  · next e rest hbound => rw [hbound]
  · next hbound => exact absurd hbound h

theorem State.handOver_of_unbound {s : State} {f : Frame} (h : s.boundEntries f.topic = []) :
    s.handOver f =
      if f.topic = 10 then s.resetMessage f
      else if f.topic = 950 then s.serve f.payload
      else
        s.setLink
          { s.link with counters := { s.link.counters with unbound := bump s.link.counters.unbound } } := by
  simp only [State.handOver, h]

theorem State.boundEntries_congr {s t : State} (h : t.loader = s.loader) (topic : Nat) :
    t.boundEntries topic = s.boundEntries topic := by
  simp only [State.boundEntries, State.binding, State.profile, h]

/-- Settles O23: the clash test, the slot drive, and then the first case of R5 that fits. -/
theorem intactFramesAreHandedOver : Obligations.IntactFramesAreHandedOver := by
  intro after bits f s
  refine ⟨?_, fun hdeaf => ?_, rfl, fun e rest => rfl⟩
  · intro hhears hparse heard c u bound
    have hclash : heard.clashTest (.good f) = c := by
      by_cases hown : f.sender = s.profile.ownStation
      · exact (State.clashTest_of_own (s := heard) (h := .good f) (congrArg some hown)).trans (if_pos hown).symm
      · exact (State.clashTest_of_other (s := heard) (h := .good f) fun hsn => hown (Option.some.inj hsn)).trans
          (if_neg hown).symm
    have hcstate : c.link.state = s.link.state := by
      simp only [c]
      split
      · exact State.setCondition_linkState heard _ _
      · rfl
    have hcloader : c.loader = s.loader := by
      simp only [c]
      split
      · exact State.setCondition_loader heard _ _
      · rfl
    have hexec : exec (.frameHeard after bits) s = .next (u.handOver f) := by
      have hheard := State.hearFrame_eq (s := s.elapse after) hhears bits
      rw [hparse] at hheard
      refine congrArg Host.Outcome.next (hheard.trans ?_)
      show (heard.clashTest (.good f)).receive (.good f) = u.handOver f
      rw [hclash]
      exact congrArg (State.handOver · f) (State.driveSlot_eq hcstate)
    have hbound : u.boundEntries f.topic = bound := State.boundEntries_congr (s := s) hcloader f.topic
    refine ⟨fun h => ?_, fun h htopic => ?_, fun h htopic => ?_, fun h hreset hservice => ?_, fun hown => ?_⟩
    · rw [hexec, State.handOver_of_bound (by rw [hbound]; exact h), hbound]
    · rw [hexec, State.handOver_of_unbound (hbound.trans h), if_pos htopic]
    · rw [hexec, State.handOver_of_unbound (hbound.trans h), if_neg (by omega), if_pos htopic]
    · rw [hexec, State.handOver_of_unbound (hbound.trans h), if_neg hreset, if_neg hservice]
    · have hc : c = heard.setCondition .stationClash true := if_pos hown
      have hmonitor : c.monitor = (heard.setCondition .stationClash true).monitor := congrArg State.monitor hc
      have hpublisher : c.publisher = (heard.setCondition .stationClash true).publisher := congrArg State.publisher hc
      refine ⟨?_, ?_, fun p hp => ?_⟩
      · show s.monitor.faults.onlyFault c.monitor.faults _ _
        rw [hmonitor]
        exact State.setCondition_onlyFault heard _ _
      · show s.publisher.onlyAwaits c.publisher
        rw [hpublisher]
        exact State.setCondition_onlyAwaits heard _ _
      · cases p <;> simp_all [State.agreesOn, u, heard]
  · have hhears : ¬(s.elapse after).link.hears = true := by
      rw [Link.hears_iff]
      rintro ⟨hactive, hnone, hfollows⟩
      rcases hdeaf with h | h | h
      · exact hactive h
      · have hwire : s.link.wire = none := hnone
        simp [hwire] at h
      · exact absurd (h.symm.trans hfollows) (by decide)
    exact congrArg Host.Outcome.next (if_neg hhears)

end Sys2Proof.Machine
end

section
/-! The outcomes of the frame on the wire (R8, R9, R14, R17, R150, R153, R159). -/

namespace Sys2Proof.Machine

/-! ### The report of an outcome -/

/-- The publisher awaits the outcome of a frame (R150). -/
def AwaitedLimit.awaits (a : AwaitedLimit) (f : TxFrame) : Prop := a.topic = f.topic ∧ a.seq = f.seq

/-- The publisher with a frame's outcome reported: it awaits that frame no more. -/
def Publisher.settle (p : Publisher) (f : TxFrame) (o : TxOutcome) : Publisher :=
  p.forget [⟨f.topic, some f.seq, o⟩]

theorem Publisher.mem_settle {p : Publisher} {f : TxFrame} {o : TxOutcome} {a : AwaitedLimit} :
    a ∈ (p.settle f o).awaited ↔ a ∈ p.awaited ∧ ¬a.awaits f := by
  simp [Publisher.settle, Publisher.forget, AwaitedLimit.awaits, @eq_comm _ f.topic, @eq_comm _ f.seq]
  exact fun _ => imp_iff_not_or.symm

theorem State.limitOutcome_of_failed (s : State) (f : TxFrame) {o : TxOutcome} (ho : o ≠ .delivered) :
    s.limitOutcome f o = s.setPublisher (s.publisher.settle f o) := by
  unfold State.limitOutcome
  dsimp only
  repeat' split
  · next h => exact absurd h ho
  · rfl
  · rfl

theorem TxTopic.consumer?_eq_some {t : TxTopic} {c : Consumer} : t.consumer? = some c ↔ t = limitTopic c := by
  cases t <;> cases c <;> simp [TxTopic.consumer?, limitTopic]

/-- A frame whose topic has no consumer, or that nobody awaits, enters no echo list. -/
theorem State.limitOutcome_of_unawaited {s : State} {f : TxFrame} (o : TxOutcome)
    (h : (∀ c, f.topic ≠ limitTopic c) ∨ ∀ a ∈ s.publisher.awaited, ¬a.awaits f) :
    s.limitOutcome f o = s.setPublisher (s.publisher.settle f o) := by
  unfold State.limitOutcome
  dsimp only
  split
  · next c a hc ha =>
    rcases h with h | h
    · exact absurd (TxTopic.consumer?_eq_some.mp hc) (h c)
    · exact absurd (by simpa [AwaitedLimit.awaits] using List.find?_some ha) (h a (List.mem_of_find?_eq_some ha))
  · rfl

/-- A delivered frame that is awaited enters the echo list of its consumer (R150, R153). -/
theorem State.limitOutcome_of_delivered {s : State} {f : TxFrame} {c : Consumer} {a : AwaitedLimit}
    (hc : f.topic = limitTopic c)
    (ha : s.publisher.awaited.find? (fun a => a.topic == f.topic && a.seq == f.seq) = some a) :
    s.limitOutcome f .delivered =
      (s.setPublisher (s.publisher.settle f .delivered)).setTrack c
        ((s.publisher.track c).deliver ⟨f.seq, a.value, s.now⟩) := by
  simp only [State.limitOutcome, TxTopic.consumer?_eq_some.mpr hc, ha, if_true, State.setPublisher_publisher,
    Publisher.forget_track]
  rfl

/-! ### Failures short of the mute -/

theorem slotOutcome_silent : slotOutcome true true = .unheard := rfl

theorem slotOutcome_reject (first : Level) : slotOutcome first false = .rejected := rfl

/-- A frame fails: the link stands as `l`, its outcome is reported and the failure counted (R14). -/
def State.failFrame (s : State) (l : Link) (f : TxFrame) (o : TxOutcome) : State :=
  ((s.setLink l).setPublisher (s.publisher.settle f o)).countFailure

theorem State.collide_eq_failFrame {s : State} {f : TxFrame} (hf : s.link.wire = some f) :
    s.collide = (s.failFrame s.link.collide f .collided).setCondition .stationClash true := by
  rw [State.collide_eq s hf, State.limitOutcome_of_failed _ _ (by decide)]
  rfl

theorem State.slotRead_eq_failFrame {s : State} {f : TxFrame} (hf : s.link.wire = some f) {first second : Level}
    (ho : slotOutcome first second ≠ .delivered) :
    s.slotRead first second =
      s.failFrame (s.link.endFrame (slotOutcome first second)) f (slotOutcome first second) := by
  rw [State.slotRead_eq s hf, if_neg ho, State.limitOutcome_of_failed _ _ ho]
  rfl

theorem State.failFrame_of_few (s : State) {l : Link} (f : TxFrame) (o : TxOutcome) (h : l.failures < 15) :
    s.failFrame l f o =
      (s.setLink { l with failures := l.failures + 1 }).setPublisher (s.publisher.settle f o) := by
  have hmin : min 16 (l.failures + 1) = l.failures + 1 := by omega
  have hfew : ¬16 ≤ l.failures + 1 := by omega
  simp [State.failFrame, State.countFailure, hmin, hfew, State.setLink, State.setPublisher]

/-- A slot read as a failure, short of the sixteenth in a row: the outcome and the failure are counted (R14). -/
theorem execAckSlotRead_of_few {s : State} {f : TxFrame} (hf : s.link.wire = some f) {first second : Level}
    (ho : slotOutcome first second ≠ .delivered) (hfew : s.link.failures < 15) (after : Nat) :
    ∃ t, exec (.ackSlotRead after first second) s = .next t ∧ t.now = s.now + after ∧
      t.link = { s.link.endFrame (slotOutcome first second) with failures := s.link.failures + 1 } ∧
      s.publisher.onlyAwaits t.publisher ∧ s.onlyChanges t [.now, .link, .publisher] := by
  have hslot := (State.slotRead_eq_failFrame (s := s.elapse after) hf ho).trans
    (State.failFrame_of_few _ f _ hfew)
  refine ⟨_, congrArg Host.Outcome.next hslot, rfl, rfl, ⟨rfl, rfl, rfl⟩, fun p hp => ?_⟩
  cases p <;> first | rfl | exact absurd (by decide) hp

/-- Settles O18: each outcome takes the frame off the wire and counts; a collision then reports the clash. -/
theorem failedFramesCountTowardsTheMute : Obligations.FailedFramesCountTowardsTheMute := by
  intro after s f hf hjoined hfew
  refine ⟨?_, fun first => execAckSlotRead_of_few hf (by rw [slotOutcome_reject]; decide) hfew after,
    execAckSlotRead_of_few hf (by rw [slotOutcome_silent]; decide) hfew after⟩
  let u : State := ((s.elapse after).setLink { s.link.collide with failures := s.link.failures + 1 }).setPublisher
    (s.publisher.settle f .collided)
  have hexec : exec (.collided after) s = .next (u.setCondition .stationClash true) := by
    have hfail := State.failFrame_of_few (s.elapse after) (l := s.link.collide) f .collided hfew
    exact congrArg Host.Outcome.next ((State.collide_eq_failFrame (s := s.elapse after) hf).trans
      (congrArg (State.setCondition · .stationClash true) hfail))
  obtain ⟨kstate, kwire, kfail, -, -, kidle, -, kcounters⟩ := State.setCondition_onlyOffers u .stationClash true
  refine ⟨_, hexec, State.setCondition_now u _ _, kwire, kidle, kstate.trans hjoined, kfail, ?_,
    State.setCondition_onlyFault u _ _, fun h => State.setCondition_latched (s := u) h,
    State.setCondition_onlyAwaits u _ _, fun p hp => ?_⟩
  · rw [kcounters]
    rfl
  · cases p <;> simp_all [State.agreesOn, u]

/-! ### The sixteenth failure -/

/-- What a MUTED link that is asked for offers can show: the queue stays empty, the sequences stay, and the dropped
count rises (R17). -/
structure Link.StaysMuted (l l' : Link) : Prop where
  offers : l.onlyOffers l'
  queue : l'.queue = l.queue
  seqs : l'.seqs = l.seqs
  dropped : l.counters.dropped ≤ l'.counters.dropped
  bound : l'.counters.dropped ≤ 65535

theorem Link.StaysMuted.refl {l : Link} (h : l.counters.dropped ≤ 65535) : l.StaysMuted l :=
  ⟨Link.onlyOffers_refl l, rfl, rfl, le_refl _, h⟩

theorem Link.StaysMuted.trans {a b c : Link} (h : a.StaysMuted b) (k : b.StaysMuted c) : a.StaysMuted c :=
  ⟨Link.onlyOffers_trans h.offers k.offers, k.queue.trans h.queue, k.seqs.trans h.seqs,
    h.dropped.trans k.dropped, k.bound⟩

theorem Link.countDropped_staysMuted {l : Link} (h : l.counters.dropped ≤ 65535) : l.StaysMuted l.countDropped where
  offers := ⟨rfl, rfl, rfl, rfl, rfl, rfl, rfl, rfl⟩
  queue := rfl
  seqs := rfl
  dropped := by
    simp only [Link.countDropped, bump, addCount]
    omega
  bound := Nat.min_le_left _ _

theorem State.setCondition_staysMuted {s : State} (hmuted : s.link.state = .muted)
    (h : s.link.counters.dropped ≤ 65535) (f : Fault12) (b : Bool) :
    s.link.StaysMuted (s.setCondition f b).link := by
  unfold State.setCondition State.report State.refreshLamp State.offerLtStatus
  repeat' split
  · exact .refl h
  · exact .refl h
  · exact .refl h
  · rw [State.offer_link]
    simp only [State.setMonitor_link]
    rw [Link.offer_of_muted _ _ hmuted]
    exact Link.countDropped_staysMuted h

theorem State.countFailure_of_sixteenth {s : State} (h : s.link.failures = 15) :
    s.countFailure = (s.setLink { s.link with failures := 16 }).enterMuted := by
  simp [State.countFailure, h]

/-- The link after the sixteenth failure: MUTED, with at most LT_STATUS frames dropped since the flush. -/
theorem State.enterMuted_staysMuted (s : State) :
    (s.link.mute (s.now + mutePeriod)).StaysMuted s.enterMuted.link :=
  State.setCondition_staysMuted (s := (s.setLink _).setPublisher _) rfl (Nat.min_le_left _ _) _ _

/-- The sixteenth failure, the frame having come off the wire. -/
theorem State.failFrame_mutes (s : State) {l : Link} (f : TxFrame) (o : TxOutcome) (h : l.failures = 15) :
    (({ l with failures := 16 } : Link).mute (s.now + mutePeriod)).StaysMuted (s.failFrame l f o).link ∧
      (s.failFrame l f o).conditionActive .linkMuted = true ∧
      s.publisher.onlyAwaits (s.failFrame l f o).publisher := by
  let v : State := (s.setLink l).setPublisher (s.publisher.settle f o)
  have hv : s.failFrame l f o = (v.setLink { v.link with failures := 16 }).enterMuted :=
    State.countFailure_of_sixteenth (s := v) h
  rw [hv]
  exact ⟨State.enterMuted_staysMuted (v.setLink { v.link with failures := 16 }), State.setCondition_active _ _ _,
    State.setCondition_onlyAwaits ((State.setLink _ _).setPublisher _) _ _⟩

/-- The failure commands as what they do: the frame off the wire, the failure counted, and after a collision the clash
reported. -/
theorem exec_failed {s : State} {f : TxFrame} (hf : s.link.wire = some f) {after : Nat} {c : Instr}
    (hc : c = .collided after ∨ (∃ first, c = .ackSlotRead after first false) ∨ c = .ackSlotRead after true true) :
    ∃ (l : Link) (o : TxOutcome), l.wire = none ∧ l.queue = s.link.queue ∧ l.seqs = s.link.seqs ∧
      l.failures = s.link.failures ∧ l.counters.dropped = s.link.counters.dropped ∧
      (exec c s = .next ((s.elapse after).failFrame l f o) ∨
        exec c s = .next (((s.elapse after).failFrame l f o).setCondition .stationClash true)) := by
  have hslot : ∀ first second, slotOutcome first second ≠ .delivered →
      exec (.ackSlotRead after first second) s = .next ((s.elapse after).failFrame
        (s.link.endFrame (slotOutcome first second)) f (slotOutcome first second)) := fun first second ho =>
    congrArg Host.Outcome.next (State.slotRead_eq_failFrame (s := s.elapse after) hf ho)
  rcases hc with rfl | ⟨first, rfl⟩ | rfl
  · exact ⟨s.link.collide, .collided, rfl, rfl, rfl, rfl, rfl,
      .inr (congrArg Host.Outcome.next (State.collide_eq_failFrame (s := s.elapse after) hf))⟩
  · exact ⟨s.link.endFrame .rejected, .rejected, rfl, rfl, rfl, rfl, rfl,
      .inl (hslot first false (by rw [slotOutcome_reject]; decide))⟩
  · exact ⟨s.link.endFrame .unheard, .unheard, rfl, rfl, rfl, rfl, rfl,
      .inl (hslot true true (by rw [slotOutcome_silent]; decide))⟩

/-- Settles O19: the mute at the outcome itself, and after it at most the report of the clash, which a MUTED link
answers by dropping its frame. -/
theorem sixteenthFailureMutesTheLink : Obligations.SixteenthFailureMutesTheLink := by
  intro after s f c hf hjoined hfifteen hbound hc
  obtain ⟨l, o, lwire, lqueue, lseqs, lfail, ldropped, hexec⟩ := exec_failed hf hc
  let u : State := (s.elapse after).failFrame l f o
  have hu := State.failFrame_mutes (s.elapse after) f o (lfail.trans hfifteen)
  have hframe : s.onlyChanges u [.now, .link, .publisher, .monitor] := by
    intro p hp
    cases p <;> simp_all [State.agreesOn, u, State.failFrame]
  have hnow : u.now = s.now + after := by
    simp only [u, State.failFrame, State.countFailure_now]
    rfl
  obtain ⟨t, ht, hmuted, hactive, hawaits, htframe, htnow⟩ : ∃ t, exec c s = .next t ∧
      (({ l with failures := 16 } : Link).mute (s.now + after + mutePeriod)).StaysMuted t.link ∧
      t.conditionActive .linkMuted = true ∧ s.publisher.onlyAwaits t.publisher ∧
      s.onlyChanges t [.now, .link, .publisher, .monitor] ∧ t.now = s.now + after := by
    obtain ⟨hmuted, hactive, hawaits⟩ := hu
    rcases hexec with hexec | hexec
    · exact ⟨u, hexec, hmuted, hactive, hawaits, hframe, hnow⟩
    · refine ⟨_, hexec, hmuted.trans (State.setCondition_staysMuted hmuted.offers.1 hmuted.bound _ _), ?_,
        Publisher.onlyAwaits_trans hawaits (State.setCondition_onlyAwaits _ _ _), ?_,
        (State.setCondition_now _ _ _).trans hnow⟩
      · rw [State.setCondition_conditionActive]
        exact hactive
      · exact State.onlyChanges_trans hframe
          (State.onlyChanges_mono (State.setCondition_onlyChanges u _ _) (by decide))
  obtain ⟨⟨kstate, kwire, kfail, -, kmute, -⟩, kqueue, kseqs, kdropped, -⟩ := hmuted
  refine ⟨t, ht, htnow, kstate, kwire.trans lwire, kqueue, kfail, ?_, hactive, kseqs.trans lseqs, ?_, hawaits, htframe⟩
  · rw [kmute, htnow]
    rfl
  · refine le_trans ?_ kdropped
    simp only [Link.mute, Link.flush, addCount, lqueue, ldropped]
    exact le_refl _

end Sys2Proof.Machine
end

section
/-! A delivered frame and the echo list of its consumer (R9, R14, R150, R153, R159). -/

namespace Sys2Proof.Machine

theorem limitTopic_injective : Function.Injective limitTopic := by
  intro c d h
  cases c <;> cases d <;> first | rfl | cases h

theorem silentFault_ne_stationClash (c : Consumer) : silentFault c ≠ .stationClash := by
  cases c <;> decide

/-! ### Reports await no new frame -/

theorem Publisher.mem_of_forget {p : Publisher} {r : List TxReport} {a : AwaitedLimit} (h : a ∈ (p.forget r).awaited) :
    a ∈ p.awaited := List.mem_of_mem_filter h

theorem State.setCondition_awaited {s : State} {f : Fault12} {b : Bool} {a : AwaitedLimit}
    (h : a ∈ (s.setCondition f b).publisher.awaited) : a ∈ s.publisher.awaited := by
  unfold State.setCondition State.report State.refreshLamp State.offerLtStatus at h
  repeat' split at h
  · exact h
  · exact h
  · exact h
  · exact Publisher.mem_of_forget h

/-! ### The delivered outcome at the publisher -/

/-- A delivered frame is awaited by its consumer, and enters the echo list, or it is not, and is forgotten at most. -/
theorem State.limitOutcome_delivered_cases (s : State) (f : TxFrame) :
    (((∀ c, f.topic ≠ limitTopic c) ∨ ∀ a ∈ s.publisher.awaited, ¬a.awaits f) ∧
      s.limitOutcome f .delivered = s.setPublisher (s.publisher.settle f .delivered)) ∨
    ∃ c a, f.topic = limitTopic c ∧
      s.publisher.awaited.find? (fun a => a.topic == f.topic && a.seq == f.seq) = some a ∧
      s.limitOutcome f .delivered =
        (s.setPublisher (s.publisher.settle f .delivered)).setTrack c
          ((s.publisher.track c).deliver ⟨f.seq, a.value, s.now⟩) := by
  by_cases hawaited : (∀ c, f.topic ≠ limitTopic c) ∨ ∀ a ∈ s.publisher.awaited, ¬a.awaits f
  · exact .inl ⟨hawaited, State.limitOutcome_of_unawaited _ hawaited⟩
  · push Not at hawaited
    obtain ⟨⟨c, hc⟩, x, hx, htopic, hseq⟩ := hawaited
    cases hfind : s.publisher.awaited.find? fun a => a.topic == f.topic && a.seq == f.seq with
    | none =>
      have := List.find?_eq_none.mp hfind x hx
      simp [htopic, hseq] at this
    | some a => exact .inr ⟨c, a, hc, rfl, State.limitOutcome_of_delivered hc hfind⟩

section

variable (s : State) (f : TxFrame)

theorem State.limitOutcome_delivered_awaited {a : AwaitedLimit}
    (h : a ∈ (s.limitOutcome f .delivered).publisher.awaited) : ¬a.awaits f := by
  rcases State.limitOutcome_delivered_cases s f with ⟨-, hu⟩ | ⟨c, x, -, -, hu⟩ <;> rw [hu] at h
  · exact (Publisher.mem_settle.mp h).2
  · have hmem := State.setCondition_awaited (s := (State.setPublisher s _).setPublisher _) h
    cases c <;> exact (Publisher.mem_settle.mp hmem).2

theorem State.limitOutcome_delivered_other {g : Fault12} (hg : ∀ c, f.topic = limitTopic c → g ≠ silentFault c) :
    (s.limitOutcome f .delivered).monitor.faults.get g = s.monitor.faults.get g := by
  rcases State.limitOutcome_delivered_cases s f with ⟨-, hu⟩ | ⟨c, x, hc, -, hu⟩ <;> rw [hu]
  · rfl
  · exact State.setCondition_other ((State.setPublisher s _).setPublisher _) _ _ (hg c hc)

theorem State.limitOutcome_unawaited_fault (h : ∀ a ∈ s.publisher.awaited, ¬a.awaits f) (g : Fault12) :
    (s.limitOutcome f .delivered).monitor.faults.get g = s.monitor.faults.get g := by
  rw [State.limitOutcome_of_unawaited _ (.inr h)]
  rfl

/-- The SILENT condition of the consumer follows its status (R159). -/
theorem State.limitOutcome_delivered_silent {c : Consumer} (hc : f.topic = limitTopic c)
    (h : ∃ a ∈ s.publisher.awaited, a.awaits f) :
    (s.limitOutcome f .delivered).conditionActive (silentFault c) =
      decide (((s.limitOutcome f .delivered).publisher.track c).status = .silent) := by
  obtain ⟨a, ha, hawaits⟩ := h
  rcases State.limitOutcome_delivered_cases s f with ⟨hno, -⟩ | ⟨d, x, hd, -, hu⟩
  · rcases hno with hno | hno
    · exact absurd hc (hno c)
    · exact absurd hawaits (hno a ha)
  · obtain rfl := limitTopic_injective (hd.symm.trans hc)
    rw [hu, State.setTrack, State.setCondition_active, State.setCondition_track]
    simp

/-- The delivered frame enters the list of its consumer, and the other list stays (R153). -/
theorem State.limitOutcome_delivered_track {c : Consumer} {a : AwaitedLimit} (hc : f.topic = limitTopic c)
    (ha : s.publisher.awaited.find? (fun a => a.topic == f.topic && a.seq == f.seq) = some a) (d : Consumer) :
    (s.limitOutcome f .delivered).publisher.track d =
      if d = c then (s.publisher.track c).deliver ⟨f.seq, a.value, s.now⟩ else s.publisher.track d := by
  rw [State.limitOutcome_of_delivered hc ha, State.setTrack, State.setCondition_track]
  simp [Publisher.settle]

theorem State.limitOutcome_delivered_onlyAwaits (h : ∀ c, f.topic ≠ limitTopic c) :
    s.publisher.onlyAwaits (s.limitOutcome f .delivered).publisher := by
  rw [State.limitOutcome_of_unawaited _ (.inl h)]
  exact ⟨rfl, rfl, rfl⟩

/-- Where the SILENT condition of the consumer already stands as its status then shows, nothing is reported. -/
theorem State.limitOutcome_delivered_quiet
    (h : ∀ c, f.topic = limitTopic c → ∀ a ∈ s.publisher.awaited, a.awaits f →
      s.conditionActive (silentFault c) =
        decide (((s.limitOutcome f .delivered).publisher.track c).status = .silent)) :
    (s.limitOutcome f .delivered).link = s.link ∧ (s.limitOutcome f .delivered).monitor = s.monitor ∧
      (s.limitOutcome f .delivered).publisher.awaited = (s.publisher.settle f .delivered).awaited := by
  rcases State.limitOutcome_delivered_cases s f with ⟨-, hu⟩ | ⟨c, a, hc, ha, hu⟩
  · rw [hu]
    exact ⟨rfl, rfl, rfl⟩
  · have hactive := h c hc a (List.mem_of_find?_eq_some ha)
      (by simpa [AwaitedLimit.awaits] using List.find?_some ha)
    rw [State.limitOutcome_delivered_track s f hc ha, if_pos rfl] at hactive
    have hsame : s.limitOutcome f .delivered =
        (s.setPublisher (s.publisher.settle f .delivered)).setPublisher
          ((s.publisher.settle f .delivered).setTrack c ((s.publisher.track c).deliver ⟨f.seq, a.value, s.now⟩)) :=
      hu.trans (State.setCondition_of_same (f := silentFault c) hactive)
    rw [hsame]
    refine ⟨rfl, rfl, ?_⟩
    cases c <;> rfl

end

/-- Settles O20: the outcome at the publisher, then the failure count, then STATION_CLASH. -/
theorem deliveredFramesEnterTheEchoLists : Obligations.DeliveredFramesEnterTheEchoLists := by
  intro after s f hf
  let b : State := (s.elapse after).setLink (s.link.endFrame .delivered)
  let u : State := b.limitOutcome f .delivered
  let v : State := u.setLink { u.link with failures := 0 }
  let t : State := v.setCondition .stationClash false
  have hexec : exec (.ackSlotRead after false true) s = .next t :=
    congrArg Host.Outcome.next (State.slotRead_eq (s.elapse after) hf false true)
  have hframe : s.onlyChanges t [.now, .link, .publisher, .monitor] := by
    intro p hp
    cases p <;> simp_all [State.agreesOn, t, v, u, b]
  obtain ⟨ustate, uwire, -, uwait, umute, uidle, uslot, ucounters⟩ := State.limitOutcome_onlyOffers b f .delivered
  have hdelivered : ({ s.link.endFrame .delivered with failures := 0 } : Link).onlyOffers v.link :=
    ⟨ustate, uwire, rfl, uwait, umute, uidle, uslot, ucounters⟩
  have hoffers := Link.onlyOffers_trans hdelivered (State.setCondition_onlyOffers v .stationClash false)
  have htrack : ∀ c, t.publisher.track c = u.publisher.track c := State.setCondition_track v _ _
  have hnow : t.now = s.now + after := (State.setCondition_now v _ _).trans (State.limitOutcome_now b _ _)
  have hfault : ∀ g, g ≠ .stationClash → t.monitor.faults.get g = u.monitor.faults.get g := fun g hg =>
    State.setCondition_other v _ _ hg
  have hsilent : ∀ c, t.conditionActive (silentFault c) = u.conditionActive (silentFault c) := fun c =>
    congrArg FaultMark.active (hfault _ (silentFault_ne_stationClash c))
  refine ⟨t, hexec, hnow, hoffers.2.1, hoffers.2.2.1, hoffers.1, ?_, ⟨hoffers, fun hclash hquiet => ?_⟩,
    fun g hg hother => ?_, fun c hc => ⟨fun h => ?_, fun h => ?_⟩, State.setCondition_active v _ _,
    fun c a hc ha => ⟨?_, fun d hd => ?_⟩, fun hno => ?_, fun a ha => ?_, hframe⟩
  · obtain ⟨-, -, -, -, -, -, -, hcounters⟩ := hoffers
    rw [hcounters]
    rfl
  · obtain ⟨hlink, hmonitor, hawaited⟩ := State.limitOutcome_delivered_quiet b f fun c hc a ha hawaits =>
      (hquiet c hc a ha hawaits.1 hawaits.2).trans (by rw [htrack])
    have hv : t = v := State.setCondition_of_same ((congrArg (fun m => (m.faults.get .stationClash).active) hmonitor).trans hclash)
    rw [hv]
    refine ⟨?_, hmonitor, fun a ha hne => ?_⟩
    · show ({ u.link with failures := 0 } : Link) = _
      rw [show u.link = b.link from hlink]
      rfl
    · show a ∈ u.publisher.awaited
      rw [show u.publisher.awaited = _ from hawaited]
      exact Publisher.mem_settle.mpr ⟨ha, hne⟩
  · exact (hfault g hg).trans (State.limitOutcome_delivered_other b f hother)
  · rw [hsilent, htrack]
    exact State.limitOutcome_delivered_silent b f hc h
  · exact (hfault _ (silentFault_ne_stationClash c)).trans (State.limitOutcome_unawaited_fault b f h _)
  · have hdeliver := State.limitOutcome_delivered_track b f hc ha c
    rw [if_pos rfl] at hdeliver
    rw [htrack, hnow]
    exact hdeliver
  · have hkeep := State.limitOutcome_delivered_track b f hc ha d
    rw [if_neg hd] at hkeep
    rw [htrack]
    exact hkeep
  · exact Publisher.onlyAwaits_trans (State.limitOutcome_delivered_onlyAwaits b f hno)
      (State.setCondition_onlyAwaits v _ _)
  · exact State.limitOutcome_delivered_awaited b f (State.setCondition_awaited (s := v) ha)

end Sys2Proof.Machine
end

section
/-! The state after reset (R18, R20, R37, R73, R99, R104, R130, R160, R168, R172, R180, R191). -/

namespace Sys2Proof.Machine

theorem State.reset_atPowerOn : State.reset.atPowerOn := by
  refine ⟨?_, rfl⟩
  unfold State.blocksAtPowerOn
  refine ⟨rfl, fun e => ?_, rfl, rfl, rfl, rfl, rfl, rfl, rfl, fun c => ?_, rfl, rfl, rfl, fun f => ?_, rfl, rfl, rfl, rfl,
    rfl, rfl, rfl, rfl, rfl, rfl, rfl, rfl, rfl, rfl, rfl, rfl⟩
  · cases e <;> rfl
  · cases c <;> rfl
  · cases f <;> rfl

/-- The fallback profile, which stands before the load, lies in its ranges (R41, R48, R83, R182, R196). -/
theorem fallbackProfile_inRange : fallbackProfile.inRange := by
  unfold Profile.inRange within
  refine ⟨by decide, by decide, by decide, by decide, by decide, by decide, by decide, by decide, by decide, by decide,
    by decide, by decide, by decide, by decide, by decide, by decide, fun m => ?_, fun e => ?_⟩
  · cases m <;> (unfold ModeProfile.inRange within; decide)
  · cases e <;> decide

theorem Track.initial_inOrder (now : Nat) : Track.initial.inOrder now := by
  simp [Track.inOrder, Track.initial]

/-- Settles O4: each block's values and each invariant, those of the link and of the Monitor as every power-on restores
them. -/
theorem resetIsThePowerOnState : Obligations.ResetIsThePowerOnState := by
  refine ⟨⟨State.reset_atPowerOn, rfl, rfl, rfl⟩, ⟨Memory.nil_wf, Memory.nil_wf, Memory.nil_wf⟩, fallbackProfile_inRange,
    State.poweredOn_linkInOrder _ _ _, fun e => ?_, fun r h => ?_, ⟨fun r h => ?_, fun b h => ?_, Nat.zero_le _⟩, fun b h => ?_, ?_, ?_, ?_, ?_,
    ⟨fun c => ?_, fun _ c => ?_⟩, ?_, ?_, State.poweredOn_copyTrue _ _ _, State.poweredOn_lampTrue _ _ _⟩
  · cases e <;> exact ⟨rfl, rfl, rfl⟩
  · cases h
  · cases h
  · cases h
  · cases h
  · unfold GripUnit.tableInRange; decide
  · unfold Drive.inOrder; decide
  · exact ⟨rfl, fun p h => nomatch h⟩
  · exact ⟨rfl, fun p h => nomatch h⟩
  · cases c <;> exact Track.initial_inOrder _
  · cases c <;> rfl
  · refine ⟨by unfold Generator.lineSafe; decide, fun r h => ?_, by decide⟩
    cases h
  · exact (State.conditionsTrue_iff _).mpr
      ⟨State.poweredOn_markTrue _ _ _, State.poweredOn_activeLatched _ _ _⟩

end Sys2Proof.Machine
end

section
/-! The two directions between a frame and its levels (R3, R192). -/

namespace Sys2Proof.Machine

/-! ### Numbers and bytes as bits -/

@[simp] theorem length_toBits (w n : Nat) : (toBits w n).length = w := by
  induction w with
  | zero => rfl
  | succ w ih => simp [toBits, ih]

theorem foldl_toBits (w n acc : Nat) :
    (toBits w n).foldl (fun acc b => 2 * acc + b.toNat) acc = acc * 2 ^ w + n % 2 ^ w := by
  induction w generalizing acc with
  | zero => simp [toBits, Nat.mod_one]
  | succ w ih =>
    rw [toBits, List.foldl_cons, ih, Nat.toNat_testBit, Nat.mod_pow_succ]
    ring

/-- A number of `w` bits is read back from them. -/
theorem ofBits_toBits {w n : Nat} (h : n < 2 ^ w) : ofBits (toBits w n) = n := by
  rw [ofBits, foldl_toBits, Nat.mod_eq_of_lt h]
  simp

@[simp] theorem length_bytesToBits (l : List Byte) : (bytesToBits l).length = 8 * l.length := by
  induction l with
  | nil => rfl
  | cons b rest ih =>
    simp only [bytesToBits, List.flatMap_cons, List.length_append, length_toBits, List.length_cons] at ih ⊢
    omega

theorem bitsToBytes_bytesToBits (l : List Byte) : bitsToBytes l.length (bytesToBits l) = l := by
  induction l with
  | nil => rfl
  | cons b rest ih =>
    have hcons : bytesToBits (b :: rest) = toBits 8 b.toNat ++ bytesToBits rest := rfl
    have hbyte : ofBits (toBits 8 b.toNat) = b.toNat := ofBits_toBits b.isLt
    rw [List.length_cons, bitsToBytes, hcons, List.take_left' (length_toBits 8 _), List.drop_left' (length_toBits 8 _), ih,
      hbyte, BitVec.ofNat_toNat, BitVec.setWidth_eq]

/-! ### Stuffing -/

/-- The run that the medium has carried after a sender's bits and their stuff bits. -/
def Run.after : Run → List Level → Run
  | r, [] => r
  | r, b :: bs => ((if r.count = 5 then ⟨!r.level, 1⟩ else r : Run).next b).after bs

/-- A receiver keeps the bits that the sender stuffed, and stands where the sender stands after them. -/
theorem takeBits_stuffed (r : Run) (bits more tail : List Level) :
    takeBits bits.length r (stuffed r (bits ++ more) ++ tail) =
      (bits, r.after bits, stuffed (r.after bits) more ++ tail) := by
  induction bits generalizing r with
  | nil => rfl
  | cons b bs ih =>
    by_cases h : r.count = 5 <;> simp [takeBits, stuffed, Run.after, readLevel, h, ih]

theorem takeBits_stuffed_of_length {n : Nat} (r : Run) (bits more tail : List Level) (h : bits.length = n) :
    takeBits n r (stuffed r (bits ++ more) ++ tail) =
      (bits, r.after bits, stuffed (r.after bits) more ++ tail) := h ▸ takeBits_stuffed r bits more tail

/-! ### The header -/

@[simp] theorem length_headerBits (topic sender seq length : Nat) : (headerBits topic sender seq length).length = 23 := by
  simp [headerBits]

section

variable (topic sender seq length : Nat)

theorem headerBits_topic : (headerBits topic sender seq length).take 10 = toBits 10 topic := by
  simp only [headerBits, List.append_assoc]
  exact List.take_left' (length_toBits _ _)

theorem headerBits_drop_topic : (headerBits topic sender seq length).drop 10 =
    toBits 5 sender ++ (toBits 4 seq ++ toBits 4 length) := by
  simp only [headerBits, List.append_assoc]
  exact List.drop_left' (length_toBits _ _)

theorem headerBits_sender : ((headerBits topic sender seq length).drop 10).take 5 = toBits 5 sender := by
  rw [headerBits_drop_topic]
  exact List.take_left' (length_toBits _ _)

theorem headerBits_drop_sender : (headerBits topic sender seq length).drop 15 = toBits 4 seq ++ toBits 4 length := by
  rw [show (15 : Nat) = 10 + 5 from rfl, ← List.drop_drop, headerBits_drop_topic]
  exact List.drop_left' (length_toBits _ _)

theorem headerBits_seq : ((headerBits topic sender seq length).drop 15).take 4 = toBits 4 seq := by
  rw [headerBits_drop_sender]
  exact List.take_left' (length_toBits _ _)

theorem headerBits_length : (headerBits topic sender seq length).drop 19 = toBits 4 length := by
  rw [show (19 : Nat) = 15 + 4 from rfl, ← List.drop_drop, headerBits_drop_sender]
  exact List.drop_left' (length_toBits _ _)

end

/-! ### A whole frame -/

/-- What a receiver keeps of a frame's payload and of its check, where there is one. -/
theorem takeBits_payload (r : Run) (payload : List Byte) (tail : List Level) :
    ∃ r3 rest3 code r4 rest4,
      takeBits (8 * payload.length) r
        (stuffed r (bytesToBits payload ++
          if payload.length = 0 then [] else toBits 16 (payloadCheck (bytesToBits payload)).toNat) ++ tail) =
        (bytesToBits payload, r3, rest3) ∧
      takeBits 16 r3 rest3 = (code, r4, rest4) ∧
      (payload.length ≠ 0 → ofBits code = (payloadCheck (bytesToBits payload)).toNat) := by
  by_cases h : payload.length = 0
  · rcases hcode : takeBits 16 (r.after (bytesToBits payload))
      (stuffed (r.after (bytesToBits payload)) [] ++ tail) with ⟨code, r4, rest4⟩
    rw [if_pos h]
    exact ⟨_, _, _, _, _, takeBits_stuffed_of_length r _ [] tail (length_bytesToBits payload), hcode,
      fun hne => absurd h hne⟩
  · have hcode := takeBits_stuffed_of_length (r.after (bytesToBits payload))
      (toBits 16 (payloadCheck (bytesToBits payload)).toNat) [] tail (length_toBits 16 _)
    rw [List.append_nil] at hcode
    rw [if_neg h]
    exact ⟨_, _, _, _, _, takeBits_stuffed_of_length r _ _ tail (length_bytesToBits payload), hcode,
      fun _ => ofBits_toBits (payloadCheck (bytesToBits payload)).isLt⟩

/-- A heard frame whose parts pass their checks is read as its fields (R4, R5). -/
theorem parseFrame_eq_good {bits start header check payload code rest0 rest1 rest2 rest3 rest4 : List Level}
    {r0 r1 r2 r3 r4 : Run} {n : Nat}
    (hstart : takeBits 1 Run.start bits = (start, r0, rest0)) (hheader : takeBits 23 r0 rest0 = (header, r1, rest1))
    (hcheck : takeBits 8 r1 rest1 = (check, r2, rest2)) (hagrees : ofBits check = (headerCheck header).toNat)
    (hlength : ofBits (header.drop 19) = n) (hshort : n ≤ 12)
    (hpayload : takeBits (8 * n) r2 rest2 = (payload, r3, rest3)) (hcode : takeBits 16 r3 rest3 = (code, r4, rest4))
    (hintact : n ≠ 0 → ofBits code = (payloadCheck payload).toNat) :
    parseFrame bits = .good ⟨ofBits (header.take 10), ofBits ((header.drop 10).take 5),
      BitVec.ofNat 4 (ofBits ((header.drop 15).take 4)), bitsToBytes n payload⟩ := by
  have hlong : ¬12 < n := by omega
  have hpass : ¬(n ≠ 0 ∧ ofBits code ≠ (payloadCheck payload).toNat) := fun ⟨hne, h⟩ => h (hintact hne)
  unfold parseFrame
  rw [hstart]
  dsimp only
  rw [hheader]
  dsimp only
  rw [hcheck]
  dsimp only
  rw [hlength, if_neg (not_not_intro hagrees), if_neg hlong, hpayload]
  dsimp only
  rw [hcode]
  exact if_neg hpass

/-- Settles O14: the receiver takes the start bit, the header, its check, the payload and its check as the sender
stuffed them, and each part is read back from its bits. -/
theorem sentFramesAreReadBack : Obligations.SentFramesAreReadBack := by
  intro f tail hwf
  simp only [Frame.wellFormed, Bool.and_eq_true, decide_eq_true_eq] at hwf
  obtain ⟨⟨htopic, hsender⟩, hlength⟩ := hwf
  let header := headerBits f.topic f.sender f.seq.toNat f.payload.length
  let check := toBits 8 (headerCheck header).toNat
  let code := if f.payload.length = 0 then [] else toBits 16 (payloadCheck (bytesToBits f.payload)).toNat
  let r0 := Run.start.after [false]
  let r1 := r0.after header
  let r2 := r1.after check
  have hbits : frameBits f = [false] ++ (header ++ (check ++ (bytesToBits f.payload ++ code))) := by
    simp [frameBits, header, check, code]
  have hstart : takeBits 1 Run.start (encodeFrame f ++ tail) =
      ([false], r0, stuffed r0 (header ++ (check ++ (bytesToBits f.payload ++ code))) ++ tail) := by
    rw [encodeFrame, hbits]
    exact takeBits_stuffed_of_length _ _ _ _ rfl
  have hheader : takeBits 23 r0 (stuffed r0 (header ++ (check ++ (bytesToBits f.payload ++ code))) ++ tail) =
      (header, r1, stuffed r1 (check ++ (bytesToBits f.payload ++ code)) ++ tail) :=
    takeBits_stuffed_of_length _ _ _ _ (length_headerBits _ _ _ _)
  have hcheck : takeBits 8 r1 (stuffed r1 (check ++ (bytesToBits f.payload ++ code)) ++ tail) =
      (check, r2, stuffed r2 (bytesToBits f.payload ++ code) ++ tail) :=
    takeBits_stuffed_of_length _ _ _ _ (length_toBits _ _)
  have hread : ofBits (header.drop 19) = f.payload.length := by
    rw [headerBits_length, ofBits_toBits (by omega)]
  obtain ⟨r3, rest3, last, r4, rest4, hpayload, hlast, hintact⟩ := takeBits_payload r2 f.payload tail
  rw [parseFrame_eq_good hstart hheader hcheck (ofBits_toBits (headerCheck header).isLt) hread hlength hpayload hlast
      hintact,
    bitsToBytes_bytesToBits, headerBits_topic, headerBits_sender, headerBits_seq, ofBits_toBits (by omega),
    ofBits_toBits (by omega), ofBits_toBits f.seq.isLt, BitVec.ofNat_toNat, BitVec.setWidth_eq]

end Sys2Proof.Machine
end

section
/-! The judgement of a service request, and records 0, 2 and 16 (R18, R184..R188, R190, R191, R193..R195). -/

namespace Sys2Proof.Machine

variable (s : State)

/-! ### The stages of a judgement -/

theorem State.serve_of_ignored {p : List Byte} (h : p.length ≠ 10 ∨ (p.getD 0 0).toNat ≠ s.profile.ownStation) :
    s.serve p = s.setResponder { s.responder with ignoredRequests := bump s.responder.ignoredRequests } :=
  if_pos h

theorem State.serve_of_addressed {p : List Byte} (hlength : p.length = 10)
    (htarget : (p.getD 0 0).toNat = s.profile.ownStation) : s.serve p = s.judgeRequest (readRequest p) :=
  if_neg fun h => h.elim (· hlength) (· htarget)

section

variable {s} {r : Request}

theorem State.judgeRequest_of_badKind (h : r.kind.toNat = 0 ∨ 5 < r.kind.toNat) :
    s.judgeRequest r = s.answer r .badKind [] := by
  refine if_pos (h.imp (fun h => ?_) fun h => ?_)
  · exact BitVec.eq_of_toNat_eq h
  · exact h

theorem State.judgeRequest_of_read (h : r.kind = 1) : s.judgeRequest r = s.serveRead r := by
  rw [State.judgeRequest, h, if_neg (by decide), if_pos rfl]

/-- Past BAD_KIND and READ: BUSY, BAD_CODE and then the kinds. -/
theorem State.judgeRequest_of_kind (hlow : 2 ≤ r.kind.toNat) (hhigh : r.kind.toNat ≤ 5) :
    s.judgeRequest r =
      if s.responder.store.isSome then s.answer r .busy []
      else if r.code.toNat ≠ s.profile.serviceCode then s.answer r .badCode []
      else s.serveKind r := by
  have hkind : ¬(r.kind = 0 ∨ 5 < r.kind) := by
    rintro (h | h)
    · rw [h] at hlow
      exact absurd hlow (by decide)
    · exact absurd hhigh (not_le.mpr h)
  have hread : r.kind ≠ 1 := by
    intro h
    rw [h] at hlow
    exact absurd hlow (by decide)
  rw [State.judgeRequest, if_neg hkind, if_neg hread]

theorem State.judgeRequest_of_served (hlow : 2 ≤ r.kind.toNat) (hhigh : r.kind.toNat ≤ 5)
    (hstore : s.responder.store = none) (hcode : r.code.toNat = s.profile.serviceCode) :
    s.judgeRequest r = s.serveKind r := by
  rw [State.judgeRequest_of_kind hlow hhigh, hstore, if_neg (by decide), if_neg (not_not_intro hcode)]

theorem State.serveKind_of_write (h : r.kind.toNat = 2) : s.serveKind r = s.serveWrite r :=
  if_pos (BitVec.eq_of_toNat_eq h)

theorem State.serveKind_of_store (h : r.kind.toNat = 3) : s.serveKind r = s.serveStore r := by
  have hkind : r.kind = 3 := BitVec.eq_of_toNat_eq h
  rw [State.serveKind, hkind, if_neg (by decide), if_pos rfl]

theorem State.serveKind_of_clear (h : r.kind.toNat = 4) : s.serveKind r = s.serveClear r := by
  have hkind : r.kind = 4 := BitVec.eq_of_toNat_eq h
  rw [State.serveKind, hkind, if_neg (by decide), if_neg (by decide), if_pos rfl]

theorem State.serveKind_of_test (h : r.kind.toNat = 5) : s.serveKind r = s.serveTest r := by
  have hkind : r.kind = 5 := BitVec.eq_of_toNat_eq h
  rw [State.serveKind, hkind, if_neg (by decide), if_neg (by decide), if_neg (by decide)]

/-! ### WRITE_MASKED and STORE_PROFILE refused -/

theorem State.serveWrite_of_badRecord (h : r.record ≠ 16) : s.serveWrite r = s.answer r .badRecord [] := if_pos h

theorem State.serveWrite_of_badOffset (h : r.record = 16) (ho : r.offset.toNat % 2 = 1) :
    s.serveWrite r = s.answer r .badOffset [] :=
  (if_neg (not_not_intro h)).trans (if_pos ho)

theorem State.serveWrite_of_closed (h : r.record = 16) (ho : r.offset.toNat % 2 = 0)
    (hw : s.responder.windowEnds = none) : s.serveWrite r = s.answer r .windowClosed [] := by
  unfold State.serveWrite
  dsimp only
  rw [if_neg (not_not_intro h), if_neg (by omega), if_pos (by simp [State.windowOpen, hw])]

theorem State.serveStore_of_closed (hw : s.responder.windowEnds = none) :
    s.serveStore r = s.answer r .windowClosed [] := by
  rw [State.serveStore, if_neg (by simp [State.windowOpen, hw])]

/-! ### READ -/

/-- READ answers with some status and data, and does nothing else. -/
theorem State.serveRead_answers (s : State) (r : Request) : ∃ status data, s.serveRead r = s.answer r status data := by
  unfold State.serveRead
  repeat' split
  all_goals exact ⟨_, _, rfl⟩

theorem State.serviceRecord_of_le {n : Nat} (h : n ≤ 16) : ∃ bytes, s.serviceRecord n = some bytes := by
  interval_cases n <;> exact ⟨_, rfl⟩

theorem State.serviceRecord_of_gt {n : Nat} (h : 16 < n) : s.serviceRecord n = none := by
  unfold State.serviceRecord
  split <;> first | rfl | omega

end

/-! ### Fields in records -/

theorem u16_toNat (n : Nat) :
    256 * (BitVec.ofNat 8 (n / 256)).toNat + (BitVec.ofNat 8 n).toNat = n % 65536 := by
  simp only [BitVec.toNat_ofNat]
  omega

/-- A record made of u16 fields alone holds the k-th of them at its place (R193). -/
theorem flatMap_u16_word {l : List Nat} {k n : Nat} (h : l[k]? = some n) :
    256 * ((l.flatMap u16).getD (2 * k) 0).toNat + ((l.flatMap u16).getD (2 * k + 1) 0).toNat = n % 65536 := by
  induction l generalizing k with
  | nil => simp at h
  | cons m rest ih =>
    cases k with
    | zero =>
      obtain rfl : m = n := by simpa using h
      exact u16_toNat m
    | succ k =>
      have hrest := ih (k := k) (by simpa using h)
      simpa [List.flatMap_cons, u16, Nat.mul_add] using hrest

theorem State.record2_eq :
    s.record2 = [s.link.counters.headerErrors, s.link.counters.payloadErrors, s.link.counters.unbound,
      s.link.counters.delivered, s.link.counters.rejected, s.link.counters.unheard, s.link.counters.collided,
      s.link.counters.superseded, s.link.counters.dropped, s.link.counters.arbitrationLosses].flatMap u16 := rfl

/-- The window's flag and its remaining time in record 0 (R184, R193). -/
theorem State.record0_window (d : Nat) (h : s.responder.windowEnds = some d) :
    (s.record0.getD 8 0).toNat = 1 ∧
      256 * (s.record0.getD 9 0).toNat + (s.record0.getD 10 0).toNat = (d - s.now) / 10 % 65536 := by
  simp only [State.record0, State.remainingMs, h]
  exact ⟨rfl, u16_toNat _⟩

theorem State.record0_noWindow (h : s.responder.windowEnds = none) :
    (s.record0.getD 8 0).toNat = 0 ∧
      256 * (s.record0.getD 9 0).toNat + (s.record0.getD 10 0).toNat = 0xFFFF := by
  simp only [State.record0, State.remainingMs, h]
  exact ⟨rfl, u16_toNat 0xFFFF⟩

theorem State.record0_stage : (s.record0.getD 11 0).toNat = storeStageCode s.responder.store % 256 :=
  BitVec.toNat_ofNat _ _

theorem storeStageCode_of_page {st : Store} {p b : Nat} (h : st.stage = .pageBurst p ∨ st.stage = .pageWait p b) :
    storeStageCode (some st) = 2 + p := by
  rcases h with h | h <;> simp [storeStageCode, h]

theorem storeStageCode_of_readBack {st : Store} {n : Nat} (h : st.stage = .readBack n) :
    storeStageCode (some st) = 6 := by
  simp [storeStageCode, h]

/-- Settles O11: the stages in their order, READ as an answer from a numbered record, and the bytes of three
records. -/
theorem requestsAreJudgedInStages : Obligations.RequestsAreJudgedInStages := by
  refine ⟨fun s p => ⟨s.serve_of_ignored, ?_⟩, fun s p hlength htarget hread => ?_, fun s => ?_⟩
  · intro hlength htarget kind replies
    rw [s.serve_of_addressed hlength htarget]
    have hserved : 2 ≤ kind → kind ≤ 5 → s.responder.store = none → (p.getD 2 0).toNat = s.profile.serviceCode →
        s.judgeRequest (readRequest p) = s.serveKind (readRequest p) :=
      State.judgeRequest_of_served (r := readRequest p)
    refine ⟨State.judgeRequest_of_badKind (r := readRequest p), fun hlow hhigh hstore => ?_,
      fun hlow hhigh hstore hcode => ?_, fun hkind hstore hcode => ⟨fun hrecord => ?_, fun hrecord hoffset => ?_⟩,
      fun hkind hstore hcode hwindow => ⟨fun hwrite hrecord hoffset => ?_, fun hstores => ?_⟩, ?_⟩
    · exact (State.judgeRequest_of_kind (r := readRequest p) hlow hhigh).trans (if_pos hstore)
    · refine (State.judgeRequest_of_kind (r := readRequest p) hlow hhigh).trans ?_
      rw [hstore]
      exact if_pos hcode
    · rw [hserved (by omega) (by omega) hstore hcode, State.serveKind_of_write (r := readRequest p) hkind]
      exact State.serveWrite_of_badRecord (r := readRequest p) hrecord
    · rw [hserved (by omega) (by omega) hstore hcode, State.serveKind_of_write (r := readRequest p) hkind]
      exact State.serveWrite_of_badOffset (r := readRequest p) hrecord hoffset
    · rw [hserved (by omega) (by omega) hstore hcode, State.serveKind_of_write (r := readRequest p) hwrite]
      exact State.serveWrite_of_closed (r := readRequest p) hrecord hoffset hwindow
    · rw [hserved (by omega) (by omega) hstore hcode, State.serveKind_of_store (r := readRequest p) hstores]
      exact State.serveStore_of_closed (r := readRequest p) hwindow
    · intro fields hstore hcode
      refine ⟨fun hclear => ?_, fun htest => ?_⟩
      · rw [hserved (by omega) (by omega) hstore hcode]
        exact State.serveKind_of_clear (r := readRequest p) hclear
      · rw [hserved (by omega) (by omega) hstore hcode]
        exact State.serveKind_of_test (r := readRequest p) htest
  · intro t record offset replies
    have ht : t = s.serveRead (readRequest p) :=
      (s.serve_of_addressed hlength htarget).trans (State.judgeRequest_of_read (r := readRequest p) hread)
    have hrecord : t = match s.serviceRecord record with
        | none => s.answer (readRequest p) .badRecord []
        | some bytes =>
          if offset < bytes.length then s.answer (readRequest p) .ok ((bytes.drop offset).take 8)
          else s.answer (readRequest p) .badOffset [] := ht
    obtain ⟨status, data, hanswer⟩ := State.serveRead_answers s (readRequest p)
    rw [hanswer] at ht
    refine ⟨fun hgt => ?_, fun hle => ?_, ?_, ?_, ?_, ?_⟩
    · rw [hrecord, State.serviceRecord_of_gt hgt]
      rfl
    · obtain ⟨bytes, hbytes⟩ := State.serviceRecord_of_le (s := s) hle
      refine ⟨bytes, hbytes, fun hlt => ?_, fun hge => ?_⟩
      · rw [hrecord, hbytes]
        exact if_pos hlt
      · rw [hrecord, hbytes]
        exact if_neg (not_lt.mpr hge)
    · rw [ht]
      rfl
    · rw [ht]
      exact State.offer_onlyOffers (s.setResponder _) _ _
    · rw [ht]
      exact ⟨rfl, rfl, rfl⟩
    · rw [ht]
      intro q hq
      cases q <;> first | rfl | exact absurd (by decide) hq
  · refine ⟨s.record0, s.record2, s.responder.pendingImage.readBytes 0 256, ?_⟩
    intro byte word x c
    refine ⟨⟨rfl, rfl, rfl, rfl, rfl, ?_, BitVec.toNat_ofNat _ _, BitVec.toNat_ofNat _ _, s.record0_noWindow, s.record0_window,
      fun h => ?_, fun st q b h hq hstage => ?_, fun st n h hstage => ?_, u16_toNat _, u16_toNat _, u16_toNat _,
      u16_toNat _⟩, ⟨rfl, rfl, fun k n h => ?_⟩, rfl, Memory.length_readBytes _ _ _, fun i hi => ?_⟩
    · show (BitVec.ofNat 8 s.loader.fallback.toNat).toNat = _
      cases s.loader.fallback <;> rfl
    · exact s.record0_stage.trans (congrArg (storeStageCode · % 256) h)
    · refine s.record0_stage.trans ((congrArg (storeStageCode · % 256) h).trans ?_)
      simp only [storeStageCode_of_page hstage]
      omega
    · refine s.record0_stage.trans ((congrArg (storeStageCode · % 256) h).trans ?_)
      simp only [storeStageCode_of_readBack hstage]
    · rw [State.record2_eq]
      exact flatMap_u16_word h
    · rw [List.getD_eq_getElem _ _ (by simpa using hi), Memory.getElem_readBytes, Nat.zero_add]

end Sys2Proof.Machine
end

section
/-! The decoded fields of the entries (R26..R28, R193, R194). -/

namespace Sys2Proof.Machine

/-- A field that is absent or taken to the nearest end of its range, with the count of its clamp (R26). -/
def rangedField (absent : Prop) [Decidable absent] (lo hi raw : Int) : List (Option Int) × Nat :=
  if absent then ([none], 0) else ([some (max lo (min hi raw))], if raw < lo ∨ hi < raw then 1 else 0)

theorem clampInt_eq_max_min {lo hi : Int} (h : lo ≤ hi) (x : Int) : clampInt lo hi x = max lo (min hi x) := by
  unfold clampInt
  split
  · omega
  · split <;> omega

theorem rangedField_eq {absent : Prop} [Decidable absent] {lo hi : Int} (h : lo ≤ hi) (raw : Int) :
    (if absent then ([none], 0) else clampedField lo hi raw) = rangedField absent lo hi raw := by
  rw [rangedField, clampedField, clampInt_eq_max_min h]

section

variable (p : List Byte) (i : Nat)

theorem payloadU8_lt : payloadU8 p i < 256 := (p.getD i 0).isLt

theorem payloadU16_lt : payloadU16 p i < 65536 := by
  have hhigh := payloadU8_lt p i
  have hlow := payloadU8_lt p (i + 1)
  unfold payloadU16
  omega

/-- An i16 of a payload is its word in two's complement (R193). -/
theorem payloadI16_eq :
    payloadI16 p i = if payloadU16 p i < 0x8000 then (payloadU16 p i : Int) else (payloadU16 p i : Int) - 0x10000 := by
  have hlt := payloadU16_lt p i
  rw [payloadI16, BitVec.toInt_eq_toNat_cond, BitVec.toNat_ofNat, Nat.mod_eq_of_lt hlt]
  split <;> split <;> omega

theorem payloadI16_absent : payloadI16 p i = -32768 ↔ payloadU16 p i = 0x8000 := by
  have hlt := payloadU16_lt p i
  rw [payloadI16_eq]
  split <;> omega

/-- A u16 of a payload as a field (R26, R28). -/
def u16Field (hi : Int) : List (Option Int) × Nat :=
  rangedField (payloadU16 p i = 0xFFFF) 0 hi (payloadU16 p i)

/-- An i16 of a payload as a field (R26, R28). -/
def i16Field (bound : Int) : List (Option Int) × Nat :=
  rangedField (payloadU16 p i = 0x8000) (-bound) bound
    (if payloadU16 p i < 0x8000 then payloadU16 p i else (payloadU16 p i : Int) - 0x10000)

/-- A u8 of a payload as a field (R26, R28). -/
def u8Field (lo hi : Int) : List (Option Int) × Nat :=
  rangedField (payloadU8 p i = 0xFF) lo hi (payloadU8 p i)

/-- An echo of a payload (R28). -/
def echoField : List (Option Int) × Nat := rangedField (15 < payloadU8 p i) 0 15 (payloadU8 p i)

/-- An offset of a payload, carried plus 2 (R28). -/
def offsetField : List (Option Int) × Nat :=
  rangedField (payloadU8 p i = 0xFF) (-2) 2 ((payloadU8 p i : Int) - 2)

/-- The ABS byte of a payload, as its two fields (R28). -/
def absFields : List (Option Int) × Nat :=
  if payloadU8 p i = 0xFF then ([none, none], 0)
  else ([some ((payloadU8 p i : Int) % 2), some ((payloadU8 p i : Int) / 2 % 2)], if 4 ≤ payloadU8 p i then 1 else 0)

theorem FieldForm.decode_u16 (hi : Nat) : (FieldForm.u16 hi).decode p i = u16Field p i hi :=
  rangedField_eq (Int.natCast_nonneg hi) _

theorem FieldForm.decode_i16 (bound : Nat) : (FieldForm.i16 bound).decode p i = i16Field p i bound := by
  rw [i16Field, ← payloadI16_eq, ← rangedField_eq (by omega)]
  simp only [FieldForm.decode, payloadI16_absent]

theorem FieldForm.decode_u8 {lo hi : Nat} (h : lo ≤ hi) : (FieldForm.u8 lo hi).decode p i = u8Field p i lo hi :=
  rangedField_eq (Int.ofNat_le.mpr h) _

theorem FieldForm.decode_echo :
    FieldForm.echo.decode p i = echoField p i := by
  simp only [FieldForm.decode, echoField, rangedField]
  split
  · rfl
  · have hvalue : max (0 : Int) (min 15 (payloadU8 p i)) = payloadU8 p i := by omega
    have hcount : ¬((payloadU8 p i : Int) < 0 ∨ (15 : Int) < payloadU8 p i) := by omega
    rw [hvalue, if_neg hcount]

theorem FieldForm.decode_offset :
    FieldForm.offset.decode p i = offsetField p i :=
  rangedField_eq (by decide) _

theorem FieldForm.decode_absFlags : FieldForm.absFlags.decode p i = absFields p i := rfl

end

/-! ### Whole payloads -/

/-- The fields of a payload, one by one, each from its place (R193, R194). -/
def decodeParts : List FieldForm → List Byte → Nat → List (List (Option Int) × Nat)
  | [], _, _ => []
  | form :: rest, p, i => form.decode p i :: decodeParts rest p (i + form.width)

theorem decodeFields_eq (forms : List FieldForm) (p : List Byte) (i : Nat) :
    decodeFields forms p i =
      ((decodeParts forms p i).flatMap Prod.fst, ((decodeParts forms p i).map Prod.snd).sum) := by
  induction forms generalizing i with
  | nil => rfl
  | cons form rest ih => simp only [decodeFields, decodeParts, ih, List.flatMap_cons, List.map_cons, List.sum_cons]

/-- Several fields with the counts of their clamps, as one payload. -/
def joinFields (parts : List (List (Option Int) × Nat)) : List (Option Int) × Nat :=
  (parts.flatMap Prod.fst, (parts.map Prod.snd).sum)

theorem decodePayload_eq {e : EntryName} {p : List Byte} {parts : List (List (Option Int) × Nat)}
    (h : decodeParts (fieldForms e) p 0 = parts) : decodePayload e p = joinFields parts := by
  rw [decodePayload, decodeFields_eq, h, joinFields]

/-- The fields of each entry in the order of its payload, with their ranges (R26, R28, R194). -/
def entryFields (p : List Byte) : EntryName → List (List (Option Int) × Nat)
  | .wheelSpeeds => [u16Field p 0 9000, u16Field p 2 9000]
  | .inertialRates => [i16Field p 0 1500, i16Field p 2 1500]
  | .inertialAccel => [i16Field p 0 2000]
  | .inertialLean => [i16Field p 0 650, u8Field p 2 0 100]
  | .engineState => [u16Field p 0 3000, u16Field p 2 3000, u8Field p 4 0 6, echoField p 5]
  | .brakeState =>
    [u16Field p 0 2000, u16Field p 2 2000, u16Field p 4 2000, u16Field p 6 2000, absFields p 8, echoField p 9]
  | .suspensionState => [u16Field p 0 300]
  | .dashSelect => [u8Field p 0 1 4, u8Field p 1 0 3, offsetField p 2]

theorem decodePayload_entryFields (e : EntryName) (p : List Byte) :
    decodePayload e p = joinFields (entryFields p e) := by
  apply decodePayload_eq
  cases e <;>
    simp [fieldForms, decodeParts, entryFields, FieldForm.width, FieldForm.decode_u16, FieldForm.decode_i16,
      FieldForm.decode_u8, FieldForm.decode_echo, FieldForm.decode_offset, FieldForm.decode_absFlags]

end Sys2Proof.Machine
end

section
/-! An entry accepts a frame: the entry, the notices to the link and the monitor, the arrivals (R15, R16, R24,
R25, R34, R35). -/

namespace Sys2Proof.Machine

/-! ### The entry -/

theorem Entry.usable_iff (x : Entry) : x.usable = true ↔ x.freshness = .fresh ∨ x.freshness = .late := by
  simp [Entry.usable]

theorem Entry.judge_accepted {x : Entry} {e : EntryName} {b : Binding} {f : Frame}
    (hlength : f.payload.length = payloadLength e) (hsender : f.sender = b.sender)
    (hnew : ¬((x.freshness = .fresh ∨ x.freshness = .late) ∧ x.lastSeq = some f.seq)) :
    x.judge e b f = .accepted := by
  have hrepeats : ¬(x.repeats f.seq = true) := by
    rw [Entry.repeats, Bool.and_eq_true, Entry.usable_iff, beq_iff_eq]
    exact hnew
  rw [Entry.judge, if_neg (not_not_intro hlength), if_neg (not_not_intro hsender), if_neg hrepeats]

/-- The frames lost between two sequences, modulo 16 (R24). -/
theorem Entry.gap_of_usable {x : Entry} {last : Seq} (h : x.freshness = .fresh ∨ x.freshness = .late)
    (hlast : x.lastSeq = some last) (n : Seq) : x.gap n = (16 + n.toNat - last.toNat - 1) % 16 := by
  have hn := n.isLt
  have hl := last.isLt
  simp only [Entry.gap, x.usable_iff.mpr h, hlast]
  bv_omega

theorem Entry.gap_of_unusable {x : Entry} (h : ¬(x.freshness = .fresh ∨ x.freshness = .late)) (n : Seq) :
    x.gap n = 0 := by
  have husable : x.usable = false := by rwa [← Bool.not_eq_true, Entry.usable_iff]
  simp only [Entry.gap, husable]

theorem Entry.accept_missed_of_usable {x : Entry} {last : Seq} {f : Frame}
    (h : x.freshness = .fresh ∨ x.freshness = .late) (hlast : x.lastSeq = some last) (e : EntryName) (now : Nat) :
    (x.accept e f now).missed = min 65535 (x.missed + ((16 + f.seq.toNat - last.toNat - 1) % 16)) :=
  congrArg (addCount x.missed) (Entry.gap_of_usable h hlast f.seq)

theorem Entry.accept_missed_of_unusable {x : Entry} {f : Frame}
    (h : ¬(x.freshness = .fresh ∨ x.freshness = .late)) (hmissed : x.missed ≤ 65535) (e : EntryName) (now : Nat) :
    (x.accept e f now).missed = x.missed :=
  (congrArg (addCount x.missed) (Entry.gap_of_unusable h f.seq)).trans (min_eq_right hmissed)

section

variable (s : State)

/-! ### The heard-mark notice -/

theorem State.joinCondition_iff :
    s.joinCondition = true ↔ ∀ e, (s.binding e).required = true → (s.topics.get e).heard = true := by
  rw [State.joinCondition, List.all_eq_true]
  exact ⟨fun h e he => by simpa [he] using h e (EntryName.mem_all e),
    fun h e _ => by
      cases he : (s.binding e).required
      · rfl
      · exact h e he⟩

theorem State.heardNotice_cases :
    (s.link.state = .silent ∧ s.joinCondition = true ∧ s.heardNotice = s.join) ∨
      (s.link.state = .joined ∧ s.joinCondition = true ∧ s.heardNotice = s.setCondition .peersMissing false) ∨
      ((s.joinCondition = true → s.link.state ≠ .silent ∧ s.link.state ≠ .joined) ∧ s.heardNotice = s) := by
  cases hjoin : s.joinCondition <;> cases hstate : s.link.state <;>
    simp [State.heardNotice, hjoin, hstate]

/-- The notice starts no mute timer, counts no failure and touches no frame on the wire. -/
theorem State.heardNotice_linkStays :
    s.heardNotice.link.muteEnds = s.link.muteEnds ∧ s.heardNotice.link.failures = s.link.failures ∧
      s.heardNotice.link.wire = s.link.wire := by
  rcases s.heardNotice_cases with ⟨-, -, h⟩ | ⟨-, -, h⟩ | ⟨-, h⟩ <;> rw [h]
  · exact ⟨rfl, rfl, rfl⟩
  · obtain ⟨-, kwire, kfail, -, kmute, -⟩ := State.setCondition_onlyOffers s .peersMissing false
    exact ⟨kmute, kfail, kwire⟩
  · exact ⟨rfl, rfl, rfl⟩

theorem State.heardNotice_onlyAwaits : s.publisher.onlyAwaits s.heardNotice.publisher := by
  rcases s.heardNotice_cases with ⟨-, -, h⟩ | ⟨-, -, h⟩ | ⟨-, h⟩ <;> rw [h]
  · exact ⟨rfl, rfl, rfl⟩
  · exact State.setCondition_onlyAwaits s _ _
  · exact ⟨rfl, rfl, rfl⟩

theorem State.heardNotice_conditionActive {g : Fault12} (hg : g ≠ .peersMissing) :
    s.heardNotice.conditionActive g = s.conditionActive g := by
  rcases s.heardNotice_cases with ⟨-, -, h⟩ | ⟨-, -, h⟩ | ⟨-, h⟩ <;> rw [h]
  · rfl
  · rw [State.setCondition_conditionActive, if_neg hg]

/-- A SILENT link joins once every required entry is heard, and no other (R15). -/
theorem State.heardNotice_join :
    (s.link.state = .silent → s.joinCondition = true →
      s.heardNotice.link.state = .joined ∧ s.heardNotice.link.joinWaitEnds = none) ∧
    (s.link.state ≠ .silent ∨ s.joinCondition = false →
      s.heardNotice.link.state = s.link.state ∧ s.heardNotice.link.joinWaitEnds = s.link.joinWaitEnds) := by
  rcases s.heardNotice_cases with ⟨hstate, hjoin, h⟩ | ⟨hstate, hjoin, h⟩ | ⟨hno, h⟩ <;> rw [h]
  · exact ⟨fun _ _ => ⟨rfl, rfl⟩, by simp [hstate, hjoin]⟩
  · obtain ⟨kstate, -, -, kwait, -⟩ := State.setCondition_onlyOffers s .peersMissing false
    exact ⟨by simp [hstate], fun _ => ⟨kstate, kwait⟩⟩
  · exact ⟨fun hsilent hjoin => absurd hsilent (hno hjoin).1, fun _ => ⟨rfl, rfl⟩⟩

/-- PEERS_MISSING of a JOINED link becomes inactive once every required entry is heard, and of no other (R16). -/
theorem State.heardNotice_peersMissing :
    (s.link.state = .joined → s.joinCondition = true → s.heardNotice.conditionActive .peersMissing = false) ∧
    (s.link.state ≠ .joined ∨ s.joinCondition = false →
      s.heardNotice.conditionActive .peersMissing = s.conditionActive .peersMissing) := by
  rcases s.heardNotice_cases with ⟨hstate, hjoin, h⟩ | ⟨hstate, hjoin, h⟩ | ⟨hno, h⟩ <;> rw [h]
  · exact ⟨by simp [hstate], fun _ => rfl⟩
  · exact ⟨fun _ _ => State.setCondition_active s _ _, by simp [hstate, hjoin]⟩
  · exact ⟨fun hjoined hjoin => absurd hjoined (hno hjoin).2, fun _ => rfl⟩

/-! ### The notices of an acceptance -/

/-- The state after the heard-mark notice of an acceptance: only an entry not heard before gives one (R35). -/
def State.noticeHeard (heard : Bool) : State := if heard then s else s.heardNotice

theorem State.noticeHeard_of_heard : s.noticeHeard true = s := rfl

theorem State.noticeHeard_onlyAwaits (b : Bool) : s.publisher.onlyAwaits (s.noticeHeard b).publisher := by
  cases b
  · exact s.heardNotice_onlyAwaits
  · exact ⟨rfl, rfl, rfl⟩

theorem State.noticeHeard_conditionActive (b : Bool) {g : Fault12} (hg : g ≠ .peersMissing) :
    (s.noticeHeard b).conditionActive g = s.conditionActive g := by
  cases b
  · exact s.heardNotice_conditionActive hg
  · rfl

theorem State.noticeHeard_linkStays (b : Bool) :
    (s.noticeHeard b).link.muteEnds = s.link.muteEnds ∧ (s.noticeHeard b).link.failures = s.link.failures ∧
      (s.noticeHeard b).link.wire = s.link.wire := by
  cases b
  · exact s.heardNotice_linkStays
  · exact ⟨rfl, rfl, rfl⟩

variable (e : EntryName) (x : Entry)

theorem State.noticeAccepted_eq :
    s.noticeAccepted e x =
      if x.freshness = .stale ∧ e = .wheelSpeeds then (s.noticeHeard x.heard).setCondition .speedLost false
      else s.noticeHeard x.heard := rfl

theorem State.noticeAccepted_onlyOffers : (s.noticeHeard x.heard).link.onlyOffers (s.noticeAccepted e x).link := by
  rw [State.noticeAccepted_eq]
  split
  · exact State.setCondition_onlyOffers _ _ _
  · exact Link.onlyOffers_refl _

theorem State.noticeAccepted_onlyAwaits : s.publisher.onlyAwaits (s.noticeAccepted e x).publisher := by
  obtain ⟨hengine, hbrake, hdue⟩ := s.noticeHeard_onlyAwaits x.heard
  rw [State.noticeAccepted_eq]
  split
  · obtain ⟨kengine, kbrake, kdue⟩ := State.setCondition_onlyAwaits (s.noticeHeard x.heard) .speedLost false
    exact ⟨kengine.trans hengine, kbrake.trans hbrake, kdue.trans hdue⟩
  · exact ⟨hengine, hbrake, hdue⟩

theorem State.noticeAccepted_conditionActive {g : Fault12} (hg : g ≠ .speedLost) :
    (s.noticeAccepted e x).conditionActive g = (s.noticeHeard x.heard).conditionActive g := by
  rw [State.noticeAccepted_eq]
  split
  · rw [State.setCondition_conditionActive, if_neg hg]
  · rfl

/-- After an arrival of the wheel speeds SPEED_LOST is inactive, where it stood for a STALE entry (R31). -/
theorem State.noticeAccepted_speedLost (h : s.conditionActive .speedLost = true → x.freshness = .stale) :
    (s.noticeAccepted .wheelSpeeds x).conditionActive .speedLost = false := by
  rw [State.noticeAccepted_eq]
  split
  · exact State.setCondition_active _ _ _
  · next hfresh =>
    rw [State.noticeHeard_conditionActive _ _ (by decide), ← Bool.not_eq_true]
    exact fun hactive => hfresh ⟨h hactive, rfl⟩

theorem State.noticeAccepted_of_quiet (hheard : x.heard = true) (hfresh : x.freshness ≠ .stale) :
    s.noticeAccepted e x = s := by
  rw [State.noticeAccepted_eq, if_neg (fun h => hfresh h.1), hheard, State.noticeHeard_of_heard]

/-! ### The arrivals -/

theorem State.estimate_onlyOffers (cause : LeanCause) : s.link.onlyOffers (s.estimate cause).link := by
  rw [State.estimate, State.drawBudget_link]
  exact Link.onlyOffers_trans
    (State.setCondition_onlyOffers (s.setEstimator (s.estimator.keep (s.leanRecord cause))) .leanDisagree
      (decide (20 ≤ (s.estimator.keep (s.leanRecord cause)).disagreementRun)))
    (State.setCondition_onlyOffers _ .leanLost (decide ((s.leanRecord cause).status = .lost)))

theorem State.estimate_conditionActive (cause : LeanCause) {g : Fault12} (hdisagree : g ≠ .leanDisagree)
    (hlost : g ≠ .leanLost) : (s.estimate cause).conditionActive g = s.conditionActive g := by
  rw [State.conditionActive, State.estimate, State.drawBudget_monitor]
  exact ((State.setCondition_conditionActive _ _ _ g).trans (if_neg hlost)).trans
    ((State.setCondition_conditionActive _ _ _ g).trans (if_neg hdisagree))

theorem State.podArrival_of_usable (h : s.topics.inertialRates.usable = true) : s.podArrival = s := if_pos h

theorem State.podArrival_of_unusable (h : s.topics.inertialRates.usable = false) : s.podArrival = s.estimate .b :=
  if_neg (by rw [h]; decide)

theorem State.setTrack_conditionActive (c : Consumer) (tr : Track) {g : Fault12} (hg : g ≠ silentFault c) :
    (s.setTrack c tr).conditionActive g = s.conditionActive g := by
  rw [State.setTrack, State.setCondition_conditionActive, if_neg hg]
  rfl

theorem State.setTrack_track (c : Consumer) (tr : Track) (d : Consumer) :
    (s.setTrack c tr).publisher.track d = if d = c then tr else s.publisher.track d := by
  rw [State.setTrack, State.setCondition_track]
  cases c <;> cases d <;> rfl

theorem State.setTrack_onlyChanges (c : Consumer) (tr : Track) :
    s.onlyChanges (s.setTrack c tr) [.link, .publisher, .monitor] := by
  intro p hp
  cases p <;> simp_all [State.agreesOn]

/-- The track of the consumer is the one given, its SILENT condition follows it, and no other does (R159). -/
theorem State.setTrack_onlyFault (c : Consumer) (tr : Track) :
    s.monitor.faults.onlyFault (s.setTrack c tr).monitor.faults (silentFault c)
      (decide (((s.setTrack c tr).publisher.track c).status = .silent)) := by
  rw [State.setTrack_track, if_pos rfl]
  exact State.setCondition_onlyFault (s.setPublisher _) _ _

theorem State.echoArrival_onlyOffers (c : Consumer) : s.link.onlyOffers (s.echoArrival c).link :=
  State.setTrack_onlyOffers s c _

/-- An echo reaches the track of its consumer, and no other (R154, R157, R159). -/
theorem State.echoArrival_spec (c : Consumer) :
    (s.echoArrival c).publisher.track c = (s.publisher.track c).arrival (s.topics.echo c) ∧
      (∀ d, d ≠ c → (s.echoArrival c).publisher.track d = s.publisher.track d) ∧
      s.monitor.faults.onlyFault (s.echoArrival c).monitor.faults (silentFault c)
        (decide (((s.echoArrival c).publisher.track c).status = .silent)) ∧
      s.link.onlyOffers (s.echoArrival c).link ∧ s.onlyChanges (s.echoArrival c) [.link, .publisher, .monitor] := by
  refine ⟨?_, fun d hd => ?_, s.setTrack_onlyFault c _, s.echoArrival_onlyOffers c, s.setTrack_onlyChanges c _⟩
  · rw [State.echoArrival, State.setTrack_track, if_pos rfl]
  · rw [State.echoArrival, State.setTrack_track, if_neg hd]

/-- The load record is recomputed while the latch is OPEN, and not while it is LATCHED (R43). -/
theorem State.recomputeIfOpen_spec :
    (s.selector.latch = .latched → s.recomputeIfOpen = s) ∧
      (s.selector.latch = .opened →
        s.recomputeIfOpen = (s.setSelector { s.selector with load := some s.loadRecord }).drawBudget) :=
  ⟨fun h => if_neg (by rw [h]; decide), fun h => if_pos h⟩

/-- An arrival brings at most offers to the link (R34). -/
theorem State.announce_onlyOffers : s.link.onlyOffers (s.announce e).link := by
  cases e
  case inertialRates => exact s.estimate_onlyOffers .a
  case inertialLean =>
    rw [State.announce, State.podArrival]
    split
    · exact Link.onlyOffers_refl _
    · exact s.estimate_onlyOffers .b
  case engineState => simpa [State.announce] using s.echoArrival_onlyOffers .engine
  case brakeState => simpa [State.announce] using s.echoArrival_onlyOffers .brake
  all_goals simpa [State.announce, State.dashArrival] using Link.onlyOffers_refl s.link

/-- An arrival reports the conditions of the lean and of the two consumers at most (R34). -/
theorem State.announce_conditionActive {g : Fault12} (hg : g = .peersMissing ∨ g = .speedLost) :
    (s.announce e).conditionActive g = s.conditionActive g := by
  have hestimate : ∀ cause, (s.estimate cause).conditionActive g = s.conditionActive g := fun cause =>
    s.estimate_conditionActive cause (by rcases hg with rfl | rfl <;> decide) (by rcases hg with rfl | rfl <;> decide)
  have htrack : ∀ c, (s.echoArrival c).conditionActive g = s.conditionActive g := fun c =>
    s.setTrack_conditionActive c _ (by rcases hg with rfl | rfl <;> cases c <;> decide)
  cases e
  case inertialRates => exact hestimate .a
  case inertialLean =>
    rw [State.announce, State.podArrival]
    split
    · rfl
    · exact hestimate .b
  case engineState => simpa [State.announce, State.conditionActive] using htrack .engine
  case brakeState => simpa [State.announce, State.conditionActive] using htrack .brake
  all_goals simp [State.announce, State.dashArrival, State.conditionActive]

end

end Sys2Proof.Machine
end

section
/-! What an accepted frame does (R15, R16, R24..R28, R34, R35). -/

namespace Sys2Proof.Machine

/-- The blocks hear of an acceptance: the entry is replaced, then the link and the monitor take notice. -/
def State.accepted (s : State) (e : EntryName) (f : Frame) : State :=
  (s.setEntry e ((s.topics.get e).accept e f s.now)).noticeAccepted e (s.topics.get e)

section

variable {s : State} {e : EntryName} {f : Frame}

theorem State.offerEntry_of_accepted (h : (s.topics.get e).judge e (s.binding e) f = .accepted) :
    s.offerEntry e f = (s.accepted e f).announce e := by
  simp only [State.offerEntry, h]
  rfl

variable (s e f)

theorem State.accepted_topics :
    (s.accepted e f).topics = s.topics.set e ((s.topics.get e).accept e f s.now) :=
  State.noticeAccepted_topics (s.setEntry e _) _ _

theorem State.accepted_onlyChanges :
    s.onlyChanges (s.accepted e f) [.link, .topics, .publisher, .monitor] := by
  intro p hp
  cases p <;> simp_all [State.agreesOn, State.accepted, State.setEntry]

theorem State.accepted_onlyAwaits : s.publisher.onlyAwaits (s.accepted e f).publisher :=
  State.noticeAccepted_onlyAwaits (s.setEntry e _) _ _

theorem State.accepted_announce_onlyChanges :
    s.onlyChanges ((s.accepted e f).announce e)
      [.link, .topics, .selector, .estimator, .grip, .brake, .publisher, .monitor, .responder] := by
  intro p hp
  cases p <;> simp_all [State.agreesOn, State.accepted, State.setEntry]

/-- Up to offers, an accepted frame brings the heard-mark notice to the link and nothing else. -/
theorem State.accepted_announce_onlyOffers :
    ((s.setEntry e ((s.topics.get e).accept e f s.now)).noticeHeard (s.topics.get e).heard).link.onlyOffers
      ((s.accepted e f).announce e).link :=
  Link.onlyOffers_trans (State.noticeAccepted_onlyOffers (s.setEntry e _) e (s.topics.get e))
    (State.announce_onlyOffers _ e)

theorem State.accepted_announce_peersMissing :
    ((s.accepted e f).announce e).conditionActive .peersMissing =
      ((s.setEntry e ((s.topics.get e).accept e f s.now)).noticeHeard (s.topics.get e).heard).conditionActive
        .peersMissing := by
  rw [State.announce_conditionActive _ _ (.inl rfl), State.accepted,
    State.noticeAccepted_conditionActive _ _ _ (by decide)]

theorem State.accepted_announce_speedLost (h : s.conditionsTrue) :
    ((s.accepted .wheelSpeeds f).announce .wheelSpeeds).conditionActive .speedLost = false := by
  obtain ⟨-, -, -, hspeed, -⟩ := h
  rw [State.announce_conditionActive _ _ (.inr rfl)]
  exact State.noticeAccepted_speedLost (s.setEntry .wheelSpeeds _) _ hspeed.mp

/-- An accepted frame of an entry heard before and not STALE is announced to no block but through R34. -/
theorem State.accepted_of_quiet (hheard : (s.topics.get e).heard = true)
    (hfresh : (s.topics.get e).freshness ≠ .stale) : s.accepted e f = s.setTopics (s.accepted e f).topics := by
  rw [State.accepted_topics]
  exact State.noticeAccepted_of_quiet (s.setEntry e _) e _ hheard hfresh

end

/-- Settles O27: the entry first, then the heard-mark notice, SPEED_LOST and the arrivals of R34; the decoded fields
follow the form of each field. -/
theorem entriesAcceptNewFrames : Obligations.EntriesAcceptNewFrames := by
  refine ⟨?_, ?_⟩
  · intro s e f hlength hsender x t judged recomputed echoed hnew
    let v : State := s.setEntry e (x.accept e f s.now)
    let u : State := s.accepted e f
    have ht : t = u.announce e := State.offerEntry_of_accepted (Entry.judge_accepted hlength hsender hnew)
    have htopics : t.topics = s.topics.set e (x.accept e f s.now) := by
      rw [ht, State.announce_topics, State.accepted_topics]
    have hentry : t.topics.get e = x.accept e f s.now := by rw [htopics, Topics.get_set_self]
    have hother : ∀ d, d ≠ e → t.topics.get d = s.topics.get d := fun d hd => by
      rw [htopics, Topics.get_set_other _ _ hd]
    have hchanges := State.accepted_announce_onlyChanges s e f
    rw [← ht] at hchanges
    obtain ⟨hstate, hwire, hfail, hwait, hmute, -⟩ := State.accepted_announce_onlyOffers s e f
    have hpeers := State.accepted_announce_peersMissing s e f
    rw [← ht] at hstate hwire hfail hwait hmute hpeers
    obtain ⟨vmute, vfail, vwire⟩ := v.noticeHeard_linkStays x.heard
    have hjoin : v.joinCondition = true ↔
        ∀ d, (s.binding d).required = true → (t.topics.get d).heard = true := by
      rw [htopics]
      exact State.joinCondition_iff v
    have hmissing : (∃ d, (s.binding d).required = true ∧ (t.topics.get d).heard = false) →
        v.joinCondition = false := by
      rintro ⟨d, hrequired, hunheard⟩
      rw [← Bool.not_eq_true, hjoin]
      exact fun h => Bool.false_ne_true (hunheard.symm.trans (h d hrequired))
    refine ⟨by rw [hentry]; rfl, by rw [hentry]; rfl, by rw [hentry]; rfl, by rw [hentry]; rfl, by rw [hentry]; rfl,
      by rw [hentry]; rfl, fun last hjudged hlast => ?_, fun hjudged hmissed => ?_, by rw [hentry]; rfl, hother,
      fun hheard hsilent hall => ?_, fun hheard hjoined hall => ?_, ⟨fun hno => ?_, fun hno => ?_⟩,
      hmute.trans vmute, hfail.trans vfail, hwire.trans vwire, fun he htrue => ?_, hchanges,
      u, ?_, State.accepted_onlyChanges s e f, State.accepted_onlyAwaits s e f, State.accepted_of_quiet s e f,
      ?_, ?_, ?_, ?_, ?_, ?_, ?_, ?_⟩
    · rw [hentry, Entry.accept_missed_of_usable hjudged hlast]
    · rw [hentry, Entry.accept_missed_of_unusable hjudged hmissed]
    · rw [hstate, hwait, hheard]
      exact v.heardNotice_join.1 hsilent (hjoin.mpr hall)
    · rw [hpeers, hheard]
      exact v.heardNotice_peersMissing.1 hjoined (hjoin.mpr hall)
    · rw [hstate, hwait]
      cases hheard : x.heard
      · exact v.heardNotice_join.2 ((hno.resolve_left (by simp [hheard])).imp_right hmissing)
      · exact ⟨rfl, rfl⟩
    · rw [hpeers]
      cases hheard : x.heard
      · exact v.heardNotice_peersMissing.2 ((hno.resolve_left (by simp [hheard])).imp_right hmissing)
      · rfl
    · subst he
      rw [ht]
      exact State.accepted_announce_speedLost s f htrue
    · rw [hentry]
      exact State.accepted_topics s e f
    · rintro rfl
      exact ht
    · rintro rfl
      rw [ht]
      refine ⟨fun h => State.podArrival_of_usable _ ((Entry.usable_iff _).mpr h), fun h =>
        State.podArrival_of_unusable _ ?_⟩
      rw [← Bool.not_eq_true, Entry.usable_iff]
      rcases h with h | h <;> simp [h]
    · rintro rfl
      exact ht
    · rintro rfl
      rw [ht]
      exact u.recomputeIfOpen_spec
    · rintro rfl
      exact ⟨u.recomputeIfOpen, u.recomputeIfOpen_spec, ht⟩
    · rintro rfl
      exact ⟨u.echoArrival .engine, u.echoArrival_spec .engine, ht⟩
    · rintro rfl
      exact ⟨u.echoArrival .brake, u.echoArrival_spec .brake, ht⟩
    · rintro rfl
      exact ht
  · intro p
    exact ⟨decodePayload_entryFields .wheelSpeeds p, decodePayload_entryFields .inertialRates p,
      decodePayload_entryFields .inertialAccel p, decodePayload_entryFields .inertialLean p,
      decodePayload_entryFields .engineState p, decodePayload_entryFields .brakeState p,
      decodePayload_entryFields .suspensionState p, decodePayload_entryFields .dashSelect p⟩

end Sys2Proof.Machine
end

section
/-! What a frame makes of an entry, and the expiries of an entry's timers (R22..R25, R29..R31). -/

namespace Sys2Proof.Machine

/-! ### The checks of a frame -/

theorem Entry.judge_malformed {x : Entry} {e : EntryName} {b : Binding} {f : Frame}
    (hlength : f.payload.length ≠ payloadLength e) : x.judge e b f = .malformed := if_pos hlength

theorem Entry.judge_intruder {x : Entry} {e : EntryName} {b : Binding} {f : Frame}
    (hlength : f.payload.length = payloadLength e) (hsender : f.sender ≠ b.sender) : x.judge e b f = .intruder := by
  rw [Entry.judge, if_neg (not_not_intro hlength), if_pos hsender]

theorem Entry.judge_duplicate {x : Entry} {e : EntryName} {b : Binding} {f : Frame}
    (hlength : f.payload.length = payloadLength e) (hsender : f.sender = b.sender)
    (hjudged : x.freshness = .fresh ∨ x.freshness = .late) (hseq : x.lastSeq = some f.seq) :
    x.judge e b f = .duplicate := by
  have hrepeats : x.repeats f.seq = true := by simp [Entry.repeats, x.usable_iff.mpr hjudged, hseq]
  rw [Entry.judge, if_neg (not_not_intro hlength), if_neg (not_not_intro hsender), if_pos hrepeats]

section

variable {s : State} {e : EntryName} {f : Frame}

theorem State.offerEntry_of_malformed (h : (s.topics.get e).judge e (s.binding e) f = .malformed) :
    s.offerEntry e f =
      s.setEntry e { s.topics.get e with malformed := bump (s.topics.get e).malformed } := by
  simp only [State.offerEntry, h]

theorem State.offerEntry_of_intruder (h : (s.topics.get e).judge e (s.binding e) f = .intruder) :
    s.offerEntry e f = s.discardIntruder e := by
  simp only [State.offerEntry, h]

theorem State.offerEntry_of_duplicate (h : (s.topics.get e).judge e (s.binding e) f = .duplicate) :
    s.offerEntry e f =
      s.setEntry e { s.topics.get e with duplicates := bump (s.topics.get e).duplicates } := by
  simp only [State.offerEntry, h]

end

/-! ### An intruder -/

/-- The entry with one more intruder counted (R23). -/
def Entry.countIntruder (x : Entry) : Entry := { x with intruders := bump255 x.intruders }

section

variable {s : State} {e : EntryName}

/-- The fourth intruder of an entry is reported (R23). -/
theorem State.discardIntruder_of_fourth (h : (s.topics.get e).intruders = 3) :
    s.discardIntruder e =
      (s.setEntry e (s.topics.get e).countIntruder).setCondition .topicContention true := if_pos h

theorem State.discardIntruder_of_other (h : (s.topics.get e).intruders ≠ 3) :
    s.discardIntruder e = s.setEntry e (s.topics.get e).countIntruder := if_neg h

theorem State.discardIntruder_topics (s : State) (e : EntryName) :
    (s.discardIntruder e).topics = s.topics.set e (s.topics.get e).countIntruder := by
  by_cases h : (s.topics.get e).intruders = 3
  · rw [State.discardIntruder_of_fourth h, State.setCondition_topics]
    rfl
  · rw [State.discardIntruder_of_other h]
    rfl

theorem State.setTopics_onlyChanges (s : State) (x : Topics) : s.onlyChanges (s.setTopics x) [.topics] := by
  intro p hp
  cases p
  case topics => exact absurd List.mem_cons_self hp
  all_goals rfl

theorem State.discardIntruder_fourth_onlyChanges (h : (s.topics.get e).intruders = 3) :
    s.onlyChanges (s.discardIntruder e) [.topics, .link, .publisher, .monitor] := by
  rw [State.discardIntruder_of_fourth h]
  exact State.onlyChanges_trans (State.onlyChanges_mono (s.setTopics_onlyChanges _) (by decide))
    (State.onlyChanges_mono (State.setCondition_onlyChanges _ _ _) (by decide))

end

/-- Settles O26: the three checks in their order, and the report of the fourth intruder. -/
theorem entriesDiscardByLengthSenderSequence : Obligations.EntriesDiscardByLengthSenderSequence := by
  intro s e f x t
  refine ⟨fun hlength => State.offerEntry_of_malformed (Entry.judge_malformed hlength),
    fun hlength hsender => ?_, fun hlength hsender hjudged hseq =>
      State.offerEntry_of_duplicate (Entry.judge_duplicate hlength hsender hjudged hseq)⟩
  have ht : t = s.discardIntruder e := State.offerEntry_of_intruder (Entry.judge_intruder hlength hsender)
  rw [ht]
  refine ⟨State.discardIntruder_topics s e, fun hother => ?_, fun hfourth => ⟨?_, ?_, ?_, ?_⟩⟩
  · rw [State.discardIntruder_of_other hother]
    exact s.setTopics_onlyChanges _
  · rw [State.discardIntruder_of_fourth hfourth]
    exact State.setCondition_onlyFault (s.setEntry e _) _ _
  · rw [State.discardIntruder_of_fourth hfourth]
    exact State.setCondition_onlyOffers (s.setEntry e _) _ _
  · rw [State.discardIntruder_of_fourth hfourth]
    exact State.setCondition_onlyAwaits (s.setEntry e _) _ _
  · exact State.discardIntruder_fourth_onlyChanges hfourth

/-! ### The timers of an entry -/

section

variable {s : State} {e : EntryName}

theorem State.deadlineDue_eq_some {d : Nat} :
    s.deadlineDue e = some d ↔ (s.topics.get e).freshness = .fresh ∧
      ∃ a, (s.topics.get e).acceptedAt = some a ∧ a + 10 * (s.binding e).deadline = d := by
  cases hfresh : (s.topics.get e).freshness <;> cases hat : (s.topics.get e).acceptedAt <;>
    simp [State.deadlineDue, hfresh, hat]

theorem State.staleDue_eq_some {d : Nat} :
    s.staleDue e = some d ↔ (s.topics.get e).freshness = .late ∧
      ∃ a, (s.topics.get e).acceptedAt = some a ∧ a + 30 * (s.binding e).deadline = d := by
  cases hfresh : (s.topics.get e).freshness <;> cases hat : (s.topics.get e).acceptedAt <;>
    simp [State.staleDue, hfresh, hat]

/-- The state at the expiry of a LATE entry, the entry STALE and no block notified yet (R31). -/
def State.goneStale (s : State) (e : EntryName) (d : Nat) : State :=
  (s.until d).setEntry e (s.topics.get e).stale

theorem exec_deadlineExpiry_of_due {d : Nat} (h : s.deadlineDue e = some d) :
    exec (.deadlineExpiry e) s = .next ((s.until d).setEntry e (s.topics.get e).deadline) := by
  simp only [exec, execDeadlineExpiry, h]

theorem exec_staleExpiry_of_due {d : Nat} (h : s.staleDue e = some d) :
    exec (.staleExpiry e) s = .next ((s.goneStale e d).staleNotice e) := by
  simp only [exec, execStaleExpiry, h]
  rfl

end

/-- Settles O28: the deadline of a FRESH entry runs from the arrival it accepted last. -/
theorem freshEntriesGoLate : Obligations.FreshEntriesGoLate := by
  intro e s a hfresh hat
  exact exec_deadlineExpiry_of_due (State.deadlineDue_eq_some.mpr ⟨hfresh, a, hat, rfl⟩)

end Sys2Proof.Machine
end

section
/-! The entries of the Topic Store stay as R20 and R26 describe them: each thing that happens to an entry keeps it in
order, and no command changes the entries in another way (R20, R24..R31, R35, R37). -/

namespace Sys2Proof.Machine

/-! ### Decoded fields lie in their ranges -/

/-- A decoded field is absent or lies within a range (R26). -/
def fieldWithin (o : Option Int) (r : Int × Int) : Prop := ∀ v, o = some v → r.1 ≤ v ∧ v ≤ r.2

theorem fieldWithin_none (r : Int × Int) : fieldWithin none r := fun _ h => nomatch h

theorem fieldWithin_some {v : Int} {r : Int × Int} : fieldWithin (some v) r ↔ r.1 ≤ v ∧ v ≤ r.2 := by
  simp [fieldWithin]

theorem fieldsInRange_iff {e : EntryName} {fields : List (Option Int)} :
    fieldsInRange e fields ↔ List.Forall₂ fieldWithin fields ((fieldForms e).flatMap FieldForm.ranges) := Iff.rfl

theorem rangedField_within {absent : Prop} [Decidable absent] {lo hi : Int} (h : lo ≤ hi) (raw : Int) :
    List.Forall₂ fieldWithin (rangedField absent lo hi raw).1 [(lo, hi)] := by
  unfold rangedField
  split
  · exact .cons (fieldWithin_none _) .nil
  · exact .cons (fieldWithin_some.mpr ⟨by omega, by omega⟩) .nil

theorem absFields_within (p : List Byte) (i : Nat) :
    List.Forall₂ fieldWithin (absFields p i).1 [(0, 1), (0, 1)] := by
  unfold absFields
  split
  · exact .cons (fieldWithin_none _) (.cons (fieldWithin_none _) .nil)
  · exact .cons (fieldWithin_some.mpr ⟨by omega, by omega⟩) (.cons (fieldWithin_some.mpr ⟨by omega, by omega⟩) .nil)

theorem FieldForm.decode_within (form : FieldForm) (h : ∀ r ∈ form.ranges, r.1 ≤ r.2) (p : List Byte) (i : Nat) :
    List.Forall₂ fieldWithin (form.decode p i).1 form.ranges := by
  cases form with
  | u16 hi =>
    rw [FieldForm.decode_u16]
    exact rangedField_within (h _ List.mem_cons_self) _
  | i16 bound =>
    rw [FieldForm.decode_i16]
    exact rangedField_within (h _ List.mem_cons_self) _
  | u8 lo hi =>
    have hle : (lo : Int) ≤ hi := h _ List.mem_cons_self
    rw [FieldForm.decode_u8 p i (Int.ofNat_le.mp hle)]
    exact rangedField_within hle _
  | echo =>
    rw [FieldForm.decode_echo]
    exact rangedField_within (by decide) _
  | absFlags =>
    rw [FieldForm.decode_absFlags]
    exact absFields_within p i
  | offset =>
    rw [FieldForm.decode_offset]
    exact rangedField_within (by decide) _

theorem decodeFields_within (forms : List FieldForm) (h : ∀ form ∈ forms, ∀ r ∈ form.ranges, r.1 ≤ r.2)
    (p : List Byte) (i : Nat) :
    List.Forall₂ fieldWithin (decodeFields forms p i).1 (forms.flatMap FieldForm.ranges) := by
  induction forms generalizing i with
  | nil => exact .nil
  | cons form rest ih =>
    exact List.rel_append (form.decode_within (h form List.mem_cons_self) p i)
      (ih (fun x hx => h x (List.mem_cons_of_mem _ hx)) (i + form.width))

theorem fieldForms_ranges (e : EntryName) : ∀ form ∈ fieldForms e, ∀ r ∈ form.ranges, r.1 ≤ r.2 := by
  cases e <;> decide

/-- Whatever a payload holds, its decoded fields are absent or in their ranges (R26, R28). -/
theorem decodePayload_inRange (e : EntryName) (p : List Byte) : fieldsInRange e (decodePayload e p).1 :=
  fieldsInRange_iff.mpr (decodeFields_within (fieldForms e) (fieldForms_ranges e) p 0)

/-! ### What happens to an entry keeps it in order -/

section

variable {x y : Entry} {e : EntryName}

theorem Entry.initial_inOrder (e : EntryName) : Entry.initial.inOrder e := by
  simp [Entry.inOrder, Entry.initial]

theorem Entry.inOrder_of_onlyCounts (hxy : x.onlyCounts y) (h : x.inOrder e) : y.inOrder e := by
  obtain ⟨hfresh, hseq, hfields, hat, -⟩ := hxy
  rwa [Entry.inOrder, hfresh, hseq, hfields, hat]

/-- The join-wait-begun notice takes the heard mark and nothing that the order of an entry rests on (R35). -/
theorem Entry.inOrder_unheard (h : x.inOrder e) : ({ x with heard := false } : Entry).inOrder e := h

/-- An entry that is not NEVER keeps what it holds at a change to another freshness but NEVER. -/
theorem Entry.inOrder_aged (hx : x.freshness ≠ .never) (hy : y.freshness ≠ .never) (hseq : y.lastSeq = x.lastSeq)
    (hfields : y.fields = x.fields) (hat : y.acceptedAt = x.acceptedAt) (h : x.inOrder e) : y.inOrder e := by
  rw [Entry.inOrder, if_neg hx] at h
  rwa [Entry.inOrder, if_neg hy, hseq, hfields, hat]

theorem Entry.deadline_inOrder (hfresh : x.freshness = .fresh) (h : x.inOrder e) : x.deadline.inOrder e :=
  Entry.inOrder_aged (x := x) (by simp [hfresh]) (by simp [Entry.deadline]) rfl rfl rfl h

theorem Entry.stale_inOrder (hlate : x.freshness = .late) (h : x.inOrder e) : x.stale.inOrder e :=
  Entry.inOrder_aged (x := x) (by simp [hlate]) (by simp [Entry.stale]) rfl rfl rfl h

/-- An accepted frame leaves an entry in order whatever it held before. -/
theorem Entry.accept_inOrder (x : Entry) (e : EntryName) (f : Frame) (now : Nat) : (x.accept e f now).inOrder e := by
  rw [Entry.inOrder, if_neg (by simp [Entry.accept])]
  exact ⟨rfl, rfl, decodePayload_inRange e f.payload⟩

end

/-! ### The store -/

section

variable {s t : State}

theorem State.entriesInOrder_congr (htopics : t.topics = s.topics) (h : s.entriesInOrder) : t.entriesInOrder := by
  rwa [State.entriesInOrder, htopics]

theorem State.entriesInOrder_of_set {e : EntryName} {x : Entry} (htopics : t.topics = s.topics.set e x)
    (hx : x.inOrder e) (h : s.entriesInOrder) : t.entriesInOrder := by
  intro d
  rw [htopics, Topics.get_set]
  split
  · next hd => rwa [hd]
  · exact h d

theorem State.entriesInOrder_of_initial (htopics : t.topics = Topics.initial) : t.entriesInOrder := by
  intro e
  rw [htopics]
  cases e <;> exact Entry.initial_inOrder _

theorem State.entriesInOrder_of_clearHeard (htopics : t.topics = s.topics.clearHeard) (h : s.entriesInOrder) :
    t.entriesInOrder := by
  intro e
  rw [htopics, Topics.get_clearHeard]
  exact Entry.inOrder_unheard (h e)

/-! ### Frames -/

/-- A frame offered to an entry changes its counts alone, or is accepted; no other entry changes (R22..R25). -/
theorem State.offerEntry_topics (s : State) (e : EntryName) (f : Frame) :
    ∃ y, (s.offerEntry e f).topics = s.topics.set e y ∧
      ((s.topics.get e).onlyCounts y ∨ y = (s.topics.get e).accept e f s.now) := by
  cases hverdict : (s.topics.get e).judge e (s.binding e) f with
  | malformed =>
    rw [State.offerEntry_of_malformed hverdict]
    exact ⟨_, rfl, .inl ⟨rfl, rfl, rfl, rfl, rfl⟩⟩
  | intruder =>
    rw [State.offerEntry_of_intruder hverdict]
    exact ⟨_, s.discardIntruder_topics e, .inl ⟨rfl, rfl, rfl, rfl, rfl⟩⟩
  | duplicate =>
    rw [State.offerEntry_of_duplicate hverdict]
    exact ⟨_, rfl, .inl ⟨rfl, rfl, rfl, rfl, rfl⟩⟩
  | accepted =>
    rw [State.offerEntry_of_accepted hverdict, State.announce_topics, State.accepted_topics]
    exact ⟨_, rfl, .inr rfl⟩

theorem State.offerEntry_entriesInOrder (e : EntryName) (f : Frame) (h : s.entriesInOrder) :
    (s.offerEntry e f).entriesInOrder := by
  obtain ⟨y, htopics, hcounts | rfl⟩ := s.offerEntry_topics e f
  · exact State.entriesInOrder_of_set htopics (Entry.inOrder_of_onlyCounts hcounts (h e)) h
  · exact State.entriesInOrder_of_set htopics (Entry.accept_inOrder _ e f s.now) h

theorem State.offerEntries_entriesInOrder (f : Frame) (l : List EntryName) (h : s.entriesInOrder) :
    (s.offerEntries f l).entriesInOrder := by
  induction l generalizing s with
  | nil => exact h
  | cons e rest ih => exact ih (State.offerEntry_entriesInOrder e f h)

/-- The chassis-reset handling counts in the store and touches no entry (R37). -/
theorem State.resetMessage_get (s : State) (f : Frame) (e : EntryName) :
    (s.resetMessage f).topics.get e = s.topics.get e := by
  unfold State.resetMessage
  split
  · rw [State.chassisReset_topics]
    cases e <;> rfl
  · cases e <;> rfl

theorem State.handOver_entriesInOrder (f : Frame) (h : s.entriesInOrder) : (s.handOver f).entriesInOrder := by
  unfold State.handOver
  split
  · exact State.offerEntries_entriesInOrder f _ h
  · split
    · exact fun e => by rw [State.resetMessage_get]; exact h e
    · split
      · exact State.entriesInOrder_congr (State.serve_topics s _) h
      · exact h

theorem State.receive_entriesInOrder (heard : Heard) (h : s.entriesInOrder) : (s.receive heard).entriesInOrder := by
  cases heard with
  | good f => exact State.handOver_entriesInOrder f (State.entriesInOrder_congr (State.driveSlot_topics s _) h)
  | badHeader | badLength | badPayload => exact h

theorem State.hearFrame_entriesInOrder (bits : List Level) (h : s.entriesInOrder) :
    (s.hearFrame bits).entriesInOrder := by
  unfold State.hearFrame
  split
  · exact State.receive_entriesInOrder _ (State.entriesInOrder_congr (State.clashTest_topics s _) h)
  · exact h

/-! ### The begin of a join wait -/

theorem State.muteExpired_topics (s : State) : s.muteExpired.topics = s.topics.clearHeard := by
  obtain ⟨-, -, htopics, -⟩ := State.enterSilent_spec ((s.setCondition .linkMuted false).setLink
    { (s.setCondition .linkMuted false).link with failures := 0, muteEnds := none })
  exact htopics.trans (congrArg Topics.clearHeard (State.setCondition_topics s _ _))

theorem State.loadComplete_topics (s : State) : s.loadComplete.topics = s.topics.clearHeard := by
  obtain ⟨-, -, htopics, -⟩ := State.enterSilent_spec (s.setNow 0).fixProfile
  rw [State.fixProfile_topics] at htopics
  simpa [State.loadComplete] using htopics

/-! ### The commands -/

theorem execDeadlineExpiry_entriesInOrder {e : EntryName} (hs : s.entriesInOrder)
    (h : exec (.deadlineExpiry e) s = .next t) : t.entriesInOrder := by
  cases hdue : s.deadlineDue e with
  | none =>
    simp only [exec, execDeadlineExpiry, hdue, Host.Outcome.next.injEq] at h
    exact h ▸ hs
  | some d =>
    rw [exec_deadlineExpiry_of_due hdue, Host.Outcome.next.injEq] at h
    obtain ⟨hfresh, -⟩ := State.deadlineDue_eq_some.mp hdue
    exact State.entriesInOrder_of_set (h ▸ rfl) (Entry.deadline_inOrder hfresh (hs e)) hs

theorem execStaleExpiry_entriesInOrder {e : EntryName} (hs : s.entriesInOrder)
    (h : exec (.staleExpiry e) s = .next t) : t.entriesInOrder := by
  cases hdue : s.staleDue e with
  | none =>
    simp only [exec, execStaleExpiry, hdue, Host.Outcome.next.injEq] at h
    exact h ▸ hs
  | some d =>
    rw [exec_staleExpiry_of_due hdue, Host.Outcome.next.injEq] at h
    obtain ⟨hlate, -⟩ := State.staleDue_eq_some.mp hdue
    exact State.entriesInOrder_of_set (h ▸ State.staleNotice_topics _ e) (Entry.stale_inOrder hlate (hs e)) hs

theorem execMuteExpiry_entriesInOrder (hs : s.entriesInOrder) (h : execMuteExpiry s = .next t) :
    t.entriesInOrder := by
  unfold execMuteExpiry at h
  split at h
  · cases h
    exact State.entriesInOrder_of_clearHeard (State.muteExpired_topics _) hs
  · cases h
    exact hs

theorem execProfileLoadComplete_entriesInOrder {min : Option (List Byte)} (hs : s.entriesInOrder)
    (h : execProfileLoadComplete min s = .next t) : t.entriesInOrder := by
  unfold execProfileLoadComplete at h
  split at h
  · cases h
    exact State.entriesInOrder_of_clearHeard (State.loadComplete_topics _) hs
  · cases h
    exact hs

/-- The six commands that reach the entries: power-on, the end of a load, a heard frame, the end of the mute, and the
two expiries of an entry. -/
def reachesEntries : Instr → Bool
  | .powerOn | .profileLoadComplete _ | .frameHeard _ _ | .muteExpiry | .deadlineExpiry _ | .staleExpiry _ => true
  | _ => false

theorem exec_topics_of_not_reaches {c : Instr} (hc : reachesEntries c = false) (h : exec c s = .next t) :
    t.topics = s.topics := by
  cases c with
  | powerOn | profileLoadComplete | frameHeard | muteExpiry | deadlineExpiry | staleExpiry => cases hc
  | frameStart | arbitrationLoss | collided | ackSlotRead | mediumIdle =>
    cases h
    simp
  | joinWaitExpiry | atRestExpiry | baseValidityExpiry | reliefExpiry | regulationStep | brakeStep | gripState
  | echoDeadlineExpiry | assertionEndExpiry | cutPeriodExpiry | ltStatus | windowExpiry =>
    simp only [exec, execJoinWaitExpiry, execAtRestExpiry, execBaseValidityExpiry, execReliefExpiry,
      execRegulationStep, execBrakeStep, execGripState, execEchoDeadlineExpiry, execAssertionEndExpiry,
      execCutPeriodExpiry, execLtStatus, execWindowExpiry] at h
    split at h
    all_goals
      cases h
      simp
  | storePageBurstEnd | storePageDone | storePageTimeout | storeReadbackComplete | readBurstEnd =>
    simp only [exec, execStorePageBurstEnd, execStorePageDone, execStorePageTimeout, execStoreReadbackComplete,
      execReadBurstEnd] at h
    repeat' split at h
    all_goals
      cases h
      simp

theorem exec_entriesInOrder {c : Instr} (hs : s.entriesInOrder) (h : exec c s = .next t) : t.entriesInOrder := by
  cases hc : reachesEntries c with
  | false => exact State.entriesInOrder_congr (exec_topics_of_not_reaches hc h) hs
  | true =>
    cases c with
    | powerOn =>
      cases h
      exact State.entriesInOrder_of_initial rfl
    | profileLoadComplete min => exact execProfileLoadComplete_entriesInOrder hs h
    | frameHeard after bits =>
      cases h
      exact State.hearFrame_entriesInOrder (s := s.elapse after) bits hs
    | muteExpiry => exact execMuteExpiry_entriesInOrder hs h
    | deadlineExpiry e => exact execDeadlineExpiry_entriesInOrder hs h
    | staleExpiry e => exact execStaleExpiry_entriesInOrder hs h
    | _ => cases hc

end

/-- Settles O30: every command keeps the entries in order, so every step does. -/
theorem entriesStayInOrder : Obligations.EntriesStayInOrder := by
  intro s t hs h
  exact step_keeps (P := State.entriesInOrder) (fun _ _ => State.entriesInOrder_congr rfl)
    (fun _ => State.entriesInOrder_congr rfl) (fun _ _ _ => exec_entriesInOrder) hs h

end Sys2Proof.Machine
end

section
/-! The notices of an entry that goes STALE, block by block (R31, R42, R50, R55, R67, R158, R159). -/

namespace Sys2Proof.Machine

section

variable (s : State)

/-! ### The consumers -/

/-- A STALE notice finds the consumer SILENT and forgets its matches in a row (R158). -/
theorem State.consumerStale_track (c : Consumer) :
    (s.consumerStale c).publisher.track c =
      { s.publisher.track c with status := .silent, matches' := 0 } := by
  rw [State.consumerStale, State.setTrack_track, if_pos rfl]
  rfl

theorem State.consumerStale_silent (c : Consumer) : (s.consumerStale c).conditionActive (silentFault c) = true :=
  State.setCondition_active _ _ _

/-! ### The lean -/

/-- With no candidate available the assumed lean is selected and the record is LOST (R55, R67). -/
theorem State.leanRecord_without_candidates :
    s.leanRecord .c = makeLeanRecord .c none none none s.profile.assumedLean s.stamp := rfl

theorem State.estimate_estimator (cause : LeanCause) :
    (s.estimate cause).estimator =
      { s.estimator.keep (s.leanRecord cause) with base := baseAfter (s.leanRecord cause) s.now } := by
  simp [State.estimate, State.refreshBase]

theorem State.estimate_leanLost (cause : LeanCause) :
    (s.estimate cause).conditionActive .leanLost = decide ((s.leanRecord cause).status = .lost) := by
  rw [State.conditionActive, State.estimate, State.drawBudget_monitor]
  exact State.setCondition_active _ _ _

/-! ### The load and the request -/

theorem State.loadRecord_congr {s t : State} (htopics : t.topics = s.topics) (hloader : t.loader = s.loader) :
    t.loadRecord = s.loadRecord := by
  simp only [State.loadRecord, State.profile, htopics, hloader]

/-- From `s` to `t` the load record is brought up to date while the latch is OPEN, and kept while it is LATCHED
(R43). -/
def State.bringsLoadUpToDate (s t : State) : Prop :=
  (s.selector.latch = .latched → t.selector.load = s.selector.load ∧ t.grip = s.grip) ∧
    (s.selector.latch = .opened → t.selector.load = some t.loadRecord)

theorem State.recomputeIfOpen_bringsLoadUpToDate : s.bringsLoadUpToDate s.recomputeIfOpen := by
  obtain ⟨hlatched, hopened⟩ := s.recomputeIfOpen_spec
  refine ⟨fun h => by rw [hlatched h]; exact ⟨rfl, rfl⟩, fun h => ?_⟩
  rw [State.loadRecord_congr s.recomputeIfOpen_topics s.recomputeIfOpen_loader, hopened h, State.drawBudget_selector]
  rfl

/-- The withdrawal of a request touches neither the load record nor what it is made from (R50). -/
theorem State.dashStale_bringsLoadUpToDate : s.bringsLoadUpToDate s.dashStale :=
  s.recomputeIfOpen_bringsLoadUpToDate

theorem State.dashStale_request : s.dashStale.selector.request = none := rfl

/-! ### The whole notice -/

theorem State.staleNotice_onlyChanges (e : EntryName) :
    s.onlyChanges (s.staleNotice e) [.link, .selector, .estimator, .grip, .publisher, .monitor] := by
  intro p hp
  cases p <;> simp_all [State.agreesOn]

theorem State.goneStale_onlyChanges (e : EntryName) (d : Nat) : s.onlyChanges (s.goneStale e d) [.now, .topics] := by
  intro p hp
  cases p <;> simp_all [State.agreesOn, State.goneStale, State.until, State.setEntry]

end

/-- Settles O29: the entry goes STALE, and then the block that waits on it hears of it. -/
theorem lateEntriesGoStaleWithNotice : Obligations.LateEntriesGoStaleWithNotice := by
  intro e s a hlate hat
  have hdue : s.staleDue e = some (a + 30 * (s.binding e).deadline) :=
    State.staleDue_eq_some.mpr ⟨hlate, a, hat, rfl⟩
  let u : State := s.goneStale e (a + 30 * (s.binding e).deadline)
  refine ⟨u.staleNotice e, exec_staleExpiry_of_due hdue, State.staleNotice_now u e, State.staleNotice_topics u e,
    ?_, ?_, ?_, ?_, ?_, ?_, ?_, ?_⟩
  · rintro rfl
    exact State.setCondition_onlyFault u .speedLost true
  · rintro rfl
    exact ⟨u.consumerStale_track .engine, u.consumerStale_silent .engine⟩
  · rintro rfl
    exact ⟨u.consumerStale_track .brake, u.consumerStale_silent .brake⟩
  · rintro rfl
    have hestimator : (u.estimate .c).estimator = _ := u.estimate_estimator .c
    have hlost : (u.estimate .c).conditionActive .leanLost = _ := u.estimate_leanLost .c
    rw [State.leanRecord_without_candidates] at hestimator hlost
    refine ⟨makeLeanRecord .c none none none u.profile.assumedLean u.stamp, congrArg Estimator.latest hestimator,
      rfl, rfl, rfl, rfl, rfl, rfl, congrArg Estimator.base hestimator, hlost⟩
  · rintro rfl
    exact u.dashStale_request
  · rintro (rfl | rfl)
    · exact u.recomputeIfOpen_bringsLoadUpToDate
    · exact u.dashStale_bringsLoadUpToDate
  · rintro (rfl | rfl) <;> exact s.goneStale_onlyChanges _ _
  · exact State.onlyChanges_trans (State.onlyChanges_mono (s.goneStale_onlyChanges e _) (by decide))
      (State.onlyChanges_mono (u.staleNotice_onlyChanges e) (by decide))

end Sys2Proof.Machine
end

section
/-! The chassis reset: its reports make conditions inactive and offer LT_STATUS frames, which cost no limit frame its
place in the queue; beside them each of the five blocks returns to its start (R11, R37, R38, R74, R100, R126, R145,
R169). -/

namespace Sys2Proof.Machine

/-! ### An offer costs no frame of a lower topic its place -/

/-- The frame that leaves a full queue has a topic at or above that of the one that joins it (R11). -/
theorem Link.enqueue_reports {l : Link} {f : TxFrame} (hq : inTopicOrder l.queue)
    (hnew : ∀ g ∈ l.queue, g.topic ≠ f.topic) :
    ∀ r ∈ (l.enqueue f).2, f.topic.number ≤ r.topic.number := by
  by_cases hroom : l.queue.length ≤ 3
  · rw [Link.enqueue_of_room f hroom]
    exact fun r hr => nomatch hr
  · rw [Link.enqueue_of_full f (by omega)]
    intro r hr
    obtain rfl := List.mem_singleton.mp hr
    have hmem : f ∈ (insertFrame f l.queue).dropLast ++ [(insertFrame f l.queue).getLast (insertFrame_ne_nil _ _)] :=
      (insertFrame_dropLast_perm f l.queue).mem_iff.mpr List.mem_cons_self
    rcases List.mem_append.mp hmem with hmem | hmem
    · exact ((insertFrame_inTopicOrder hq hnew).dropLast_lt (insertFrame_ne_nil _ _) f hmem).le
    · exact (congrArg (fun g => g.topic.number) (List.mem_singleton.mp hmem)).le

/-- An offer reports outcomes of its own topic and of higher ones alone (R10, R11, R17). -/
theorem Link.offer_reports {l : Link} (h : l.inOrder) (t : TxTopic) (p : List Byte) :
    ∀ r ∈ (l.offer t p).2, t.number ≤ r.topic.number := by
  cases hs : l.state with
  | inactive =>
    rw [Link.offer_of_inactive t p hs]
    exact fun r hr => nomatch hr
  | muted =>
    rw [Link.offer_of_muted t p hs]
    intro r hr
    obtain rfl := List.mem_singleton.mp hr
    exact le_rfl
  | silent | joined =>
    have ha : l.accepts := by simp [Link.accepts, hs]
    by_cases hnew : ∀ g ∈ l.queue, g.topic ≠ t
    · rw [Link.offer_of_new p ha hnew]
      exact Link.enqueue_reports (l := l.takeSeq t) h.1 hnew
    · obtain ⟨old, hold⟩ := Option.ne_none_iff_exists'.mp (mt waitingOf_eq_none.mp hnew)
      rw [Link.offer_of_waiting p ha hold]
      intro r hr
      obtain rfl := List.mem_singleton.mp hr
      exact le_rfl

/-- A frame of a lower topic than any reported stays awaited (R150). -/
theorem Publisher.mem_forget {p : Publisher} {reports : List TxReport} {a : AwaitedLimit} (ha : a ∈ p.awaited)
    (hlow : ∀ r ∈ reports, a.topic.number < r.topic.number) : a ∈ (p.forget reports).awaited := by
  refine List.mem_filter.mpr ⟨ha, ?_⟩
  have hnone : ¬∃ r ∈ reports, r.topic = a.topic ∧ r.seq = some a.seq := by
    rintro ⟨r, hr, htopic, -⟩
    have := hlow r hr
    rw [htopic] at this
    exact lt_irrefl _ this
  simpa using hnone

/-! ### What the reports of a reset do -/

/-- The frame is a limit frame (R148, R149). -/
def AwaitedLimit.isLimit (a : AwaitedLimit) : Prop := a.topic = .driveLimit ∨ a.topic = .brakeLimit

/-- From `s` to `t` the conditions of the faults `fs` have become inactive and no other mark has changed, the link has
taken offers at most, and an awaited limit frame is awaited still. -/
structure State.Clears (s t : State) (fs : List Fault12) : Prop where
  active : ∀ g, t.conditionActive g = (s.conditionActive g && !fs.contains g)
  latched : ∀ g, (t.monitor.faults.get g).latched = (s.monitor.faults.get g).latched
  count : ∀ g, (t.monitor.faults.get g).count = (s.monitor.faults.get g).count
  offers : s.link.onlyOffers t.link
  inOrder : s.link.inOrder → t.link.inOrder
  awaited : s.link.inOrder → ∀ a ∈ s.publisher.awaited, a.isLimit → a ∈ t.publisher.awaited
  gripStateDue : t.publisher.gripStateDue = s.publisher.gripStateDue

theorem State.Clears.trans {s t u : State} {fs gs : List Fault12} (h : s.Clears t fs) (k : t.Clears u gs) :
    s.Clears u (fs ++ gs) where
  active g := by simp [k.active, h.active, Bool.and_assoc]
  latched g := (k.latched g).trans (h.latched g)
  count g := (k.count g).trans (h.count g)
  offers := Link.onlyOffers_trans h.offers k.offers
  inOrder := k.inOrder ∘ h.inOrder
  awaited hl a ha hlimit := k.awaited (h.inOrder hl) a (h.awaited hl a ha hlimit) hlimit
  gripStateDue := k.gripStateDue.trans h.gripStateDue

/-- An operation on other parts than the link, the Monitor's marks and what the publisher awaits. -/
theorem State.Clears.of_frame {s t : State} (hlink : t.link = s.link)
    (hfaults : t.monitor.faults = s.monitor.faults) (hawaited : t.publisher.awaited = s.publisher.awaited)
    (hdue : t.publisher.gripStateDue = s.publisher.gripStateDue) : s.Clears t [] where
  active g := by simp [State.conditionActive, hfaults]
  latched g := by rw [hfaults]
  count g := by rw [hfaults]
  offers := hlink ▸ Link.onlyOffers_refl _
  inOrder := hlink ▸ id
  awaited _ a ha _ := hawaited ▸ ha
  gripStateDue := hdue

/-- What an operation clears after such a one. -/
theorem State.Clears.after {s t u : State} {fs : List Fault12} (h : u.Clears t fs) (hlink : u.link = s.link)
    (hfaults : u.monitor.faults = s.monitor.faults) (hawaited : u.publisher.awaited = s.publisher.awaited)
    (hdue : u.publisher.gripStateDue = s.publisher.gripStateDue) : s.Clears t fs :=
  (State.Clears.of_frame hlink hfaults hawaited hdue).trans h

theorem State.Clears.refl (s : State) : s.Clears s [] := .of_frame rfl rfl rfl rfl

section

variable (s : State)

theorem State.offer_ltStatus_clears (p : List Byte) : s.Clears (s.offer .ltStatus p) [] where
  active g := by simp [State.conditionActive]
  latched g := by simp
  count g := by simp
  offers := s.offer_onlyOffers _ _
  inOrder := s.offer_inOrder _ _
  awaited hl a ha hlimit := by
    refine Publisher.mem_forget ha fun r hr => ?_
    have hlow : a.topic.number < TxTopic.ltStatus.number := by rcases hlimit with h | h <;> rw [h] <;> decide
    exact hlow.trans_le (Link.offer_reports hl _ _ r hr)
  gripStateDue := rfl

theorem State.offerLtStatus_clears : s.Clears s.offerLtStatus [] := by
  unfold State.offerLtStatus
  split
  · exact .refl s
  · exact (State.offer_ltStatus_clears (s.setMonitor _) _).after rfl rfl rfl rfl

theorem State.refreshLamp_clears : s.Clears s.refreshLamp [] := by
  unfold State.refreshLamp
  split
  · exact .refl s
  · exact (State.offerLtStatus_clears (s.setMonitor _)).after rfl rfl rfl rfl

/-- A condition that becomes inactive, or was so already, leaves its latched mark and its count (R172). -/
theorem State.setCondition_clears (f : Fault12) : s.Clears (s.setCondition f false) [f] := by
  have hactive : ∀ g, (s.setCondition f false).conditionActive g = (s.conditionActive g && !([f]).contains g) := by
    intro g
    rw [State.setCondition_conditionActive]
    by_cases hg : g = f <;> simp [hg]
  by_cases hoff : s.conditionActive f = false
  · rw [State.setCondition_of_same hoff] at hactive ⊢
    exact { State.Clears.refl s with active := hactive }
  · have hreport : s.setCondition f false = s.report f false := if_neg hoff
    have hlamp := State.refreshLamp_clears
      (s.setMonitor { s.monitor with faults := s.monitor.faults.set f ((s.monitor.faults.get f).reported false) })
    rw [hreport] at hactive ⊢
    refine ⟨hactive, fun g => (hlamp.latched g).trans ?_, fun g => (hlamp.count g).trans ?_, hlamp.offers,
      hlamp.inOrder, hlamp.awaited, hlamp.gripStateDue⟩
    all_goals
      rw [State.setMonitor_monitor, FaultSet.get_set]
      split
      · next hg => rw [hg]; rfl
      · rfl

theorem State.tellDriveIfChanged_clears (d : Drive) : s.Clears (s.tellDriveIfChanged d) [] := by
  unfold State.tellDriveIfChanged State.tellDrive
  split
  · exact .refl s
  · exact (State.refreshLamp_clears (s.setMonitor _)).after rfl rfl rfl rfl

theorem State.tellBrakeIfChanged_clears (b : Brake) : s.Clears (s.tellBrakeIfChanged b) [] := by
  unfold State.tellBrakeIfChanged
  split
  · exact .refl s
  · exact (State.refreshLamp_clears (s.setMonitor _)).after rfl rfl rfl rfl

theorem State.tellCut_clears (b : Bool) : s.Clears (s.tellCut b) [] := by
  unfold State.tellCut
  split
  · exact .refl s
  · exact (State.refreshLamp_clears (s.setMonitor _)).after rfl rfl rfl rfl

/-! ### The five blocks -/

theorem State.resetEstimator_clears : s.Clears s.resetEstimator [.leanDisagree, .leanLost] := by
  refine State.Clears.trans (fs := [.leanDisagree]) ?_ (State.setCondition_clears _ .leanLost)
  exact (State.setCondition_clears (s.setEstimator _) .leanDisagree).after rfl rfl rfl rfl

theorem State.resetGrip_clears : s.Clears s.resetGrip [] := .of_frame rfl rfl rfl rfl

theorem State.resetDrive_clears : s.Clears s.resetDrive [] :=
  (State.tellDriveIfChanged_clears (s.setDrive _) s.drive).after rfl rfl rfl rfl

theorem State.resetBrake_clears : s.Clears s.resetBrake [] :=
  (State.tellBrakeIfChanged_clears (s.setBrake _) s.brake).after rfl rfl rfl rfl

theorem State.endCut_clears (g : Generator) : s.Clears ((s.setGenerator g).tellCut false) [] :=
  (State.tellCut_clears (s.setGenerator g) false).after rfl rfl rfl rfl

theorem State.resetPublisher_clears : s.Clears s.resetPublisher [.engineSilent, .brakeSilent] := by
  refine State.Clears.trans (fs := [.engineSilent, .brakeSilent]) ?_ (State.endCut_clears _ s.generator.reset)
  refine State.Clears.trans (fs := [.engineSilent]) ?_ (State.setCondition_clears _ .brakeSilent)
  exact (State.setCondition_clears (s.setPublisher _) .engineSilent).after rfl rfl rfl rfl

/-- The four conditions that a chassis reset makes inactive (R74, R169). -/
def resetFaults : List Fault12 := [.leanDisagree, .leanLost, .engineSilent, .brakeSilent]

theorem State.chassisReset_clears : s.Clears s.chassisReset resetFaults :=
  (((s.resetEstimator_clears.trans (State.resetGrip_clears _)).trans (State.resetDrive_clears _)).trans
    (State.resetBrake_clears _)).trans (State.resetPublisher_clears _)

theorem State.resetEstimator_estimator :
    s.resetEstimator.estimator = { s.estimator with base := none, disagreementRun := 0 } := by
  simp [State.resetEstimator]

theorem State.resetDrive_drive :
    s.resetDrive.drive = { s.drive with state := .passive, working := none, holdCount := 0 } := by
  simp [State.resetDrive]

theorem State.resetBrake_brake :
    s.resetBrake.brake = { s.brake with front := s.brake.front.reset, rear := s.brake.rear.reset } := by
  simp [State.resetBrake]

theorem State.tellCut_track (b : Bool) (c : Consumer) :
    (s.tellCut b).publisher.track c = s.publisher.track c := by
  unfold State.tellCut
  split <;> simp

theorem State.resetPublisher_track (c : Consumer) : s.resetPublisher.publisher.track c = Track.initial := by
  rw [State.resetPublisher, State.tellCut_track, State.setGenerator_publisher, State.setCondition_track,
    State.setCondition_track]
  cases c <;> rfl

theorem State.resetPublisher_generator : s.resetPublisher.generator = s.generator.reset := by
  simp [State.resetPublisher]

theorem State.chassisReset_estimator :
    s.chassisReset.estimator = { s.estimator with base := none, disagreementRun := 0 } := by
  simp [State.chassisReset, State.resetEstimator_estimator]

theorem State.chassisReset_grip : s.chassisReset.grip = { s.grip with table := clearedTable } := by
  simp [State.chassisReset, State.resetGrip]

theorem State.chassisReset_drive :
    s.chassisReset.drive = { s.drive with state := .passive, working := none, holdCount := 0 } := by
  simp [State.chassisReset, State.resetDrive_drive]

theorem State.chassisReset_brake :
    s.chassisReset.brake = { s.brake with front := s.brake.front.reset, rear := s.brake.rear.reset } := by
  simp [State.chassisReset, State.resetBrake_brake]

theorem State.chassisReset_generator : s.chassisReset.generator = s.generator.reset := by
  simp [State.chassisReset, State.resetPublisher_generator]

theorem State.chassisReset_onlyChanges :
    s.onlyChanges s.chassisReset
      [.estimator, .grip, .drive, .brake, .publisher, .generator, .link, .monitor] := by
  intro p hp
  cases p <;> simp_all [State.agreesOn]

/-! ### The message -/

theorem State.resetMessage_of_valid {s : State} {f : Frame} (hlength : f.payload.length = 1)
    (hsender : f.sender = (s.binding .dashSelect).sender) (hscope : f.payload[0]? = some 1) :
    s.resetMessage f =
      (s.setTopics { s.topics with announcedResets := bump s.topics.announcedResets }).chassisReset := by
  have hbyte : payloadU8 f.payload 0 = 1 := by simp [payloadU8, List.getD, hscope]
  exact if_pos ⟨hlength, hsender, hbyte⟩

theorem State.resetMessage_of_invalid {s : State} {f : Frame}
    (h : ¬(f.payload.length = 1 ∧ f.sender = (s.binding .dashSelect).sender ∧ f.payload[0]? = some 1)) :
    s.resetMessage f = s.setTopics { s.topics with ignoredResets := bump s.topics.ignoredResets } := by
  refine if_neg fun ⟨hlength, hsender, hbyte⟩ => h ⟨hlength, hsender, ?_⟩
  obtain ⟨b, hb⟩ := List.length_eq_one_iff.mp hlength
  rw [hb] at hbyte ⊢
  exact congrArg some (BitVec.eq_of_toNat_eq hbyte)

end

/-- Settles O31: the message is judged, and then each block's part of the reset and the reports of all of them. -/
theorem chassisResetReachesFiveBlocks : Obligations.ChassisResetReachesFiveBlocks := by
  intro s f t valid
  refine ⟨State.resetMessage_of_invalid, fun ⟨hlength, hsender, hscope⟩ => ?_⟩
  let u : State := s.setTopics { s.topics with announcedResets := bump s.topics.announcedResets }
  have ht : t = u.chassisReset := State.resetMessage_of_valid hlength hsender hscope
  have hclears := u.chassisReset_clears
  rw [ht]
  refine ⟨u.chassisReset_topics, u.chassisReset_estimator, u.chassisReset_grip, u.chassisReset_drive,
    u.chassisReset_brake, fun c => State.resetPublisher_track _ c, hclears.gripStateDue, hclears.awaited,
    u.chassisReset_generator, fun g => ?_, fun g => ⟨hclears.latched g, hclears.count g⟩, hclears.offers,
    State.onlyChanges_trans (State.onlyChanges_mono (s.setTopics_onlyChanges _) (by decide))
      (State.onlyChanges_mono u.chassisReset_onlyChanges (by decide))⟩
  rw [hclears.active g]
  cases g <;> rfl

end Sys2Proof.Machine
end

section
/-! SUPPORT. The manual's clamps and its square root, and the running profile: whatever an image holds, its fields lie in
their ranges once the loader has clamped them (R1, R41, R48, R49, R83, R160, R182). -/

namespace Sys2Proof.Machine

/-! ### Clamps and the square root -/

theorem clampNat_eq_max_min {lo hi : Nat} (h : lo ≤ hi) (x : Nat) : clampNat lo hi x = max lo (min hi x) := by
  unfold clampNat
  repeat' split
  all_goals omega

theorem clampNat_within {lo hi : Nat} (h : lo ≤ hi) (x : Nat) : within lo hi (clampNat lo hi x) := by
  rw [clampNat_eq_max_min h]
  constructor <;> omega

theorem clampNat_le {lo hi : Nat} (h : lo ≤ hi) (x : Nat) : clampNat lo hi x ≤ hi := (clampNat_within h x).2

theorem clampNat_zero_le (hi x : Nat) : clampNat 0 hi x ≤ hi := clampNat_le (Nat.zero_le hi) x

theorem isqrtFrom_mul_self_le (k n r : Nat) (h : r * r ≤ n) : isqrtFrom k n r * isqrtFrom k n r ≤ n := by
  induction k generalizing r with
  | zero => exact h
  | succ k ih =>
    apply ih
    split
    · assumption
    · exact h

theorem isqrt_mul_self_le (n : Nat) : isqrt n * isqrt n ≤ n := isqrtFrom_mul_self_le 16 n 0 (Nat.zero_le n)

theorem isqrt_le {n m : Nat} (h : n ≤ m * m) : isqrt n ≤ m :=
  Nat.mul_self_le_mul_self_iff.mp ((isqrt_mul_self_le n).trans h)

/-! ### The clamped fields -/

theorem LoadRow.clampFields_inRange (r : LoadRow) :
    r.clampFields.added ≤ 400 ∧ within 300 1200 r.clampFields.height ∧ within 256 768 r.clampFields.rearShare :=
  ⟨clampNat_zero_le _ _, clampNat_within (by decide) _, clampNat_within (by decide) _⟩

theorem GripRow.clampFields_inRange (r : GripRow) :
    within 205 1536 r.clampFields.muBase ∧ within 16 512 r.clampFields.slipTarget :=
  ⟨clampNat_within (by decide) _, clampNat_within (by decide) _⟩

theorem Binding.clampFields_inRange (b : Binding) :
    b.clampFields.topic ≤ 1023 ∧ b.clampFields.sender ≤ 31 ∧ within 2 1000 b.clampFields.deadline :=
  ⟨clampNat_zero_le _ _, clampNat_zero_le _ _, clampNat_within (by decide) _⟩

/-- A cut period lies within 16..48 ms and stays there when it is taken down to a multiple of 8 (R160). -/
theorem clampCutPeriod_inRange (x : Nat) : within 16 48 (clampCutPeriod x) ∧ clampCutPeriod x % 8 = 0 := by
  obtain ⟨hlo, hhi⟩ := clampNat_within (lo := 16) (hi := 48) (by decide) x
  unfold clampCutPeriod within
  omega

theorem ModeProfile.constrain_eq (p : ModeProfile) :
    p.constrain =
      { p with
        recoveryRise := min p.trackingRise p.recoveryRise
        driveFloor := min p.driveMax p.driveFloor } := by
  have hmin : ∀ x y : Nat, (if x < y then x else y) = min x y := fun x y => by split <;> omega
  simp only [ModeProfile.constrain, hmin]

/-- The range clamps bring each field into its range, and the two constraints keep it there (R48, R49). -/
theorem ModeProfile.constrain_clampFields_inRange (p : ModeProfile) : p.clampFields.constrain.inRange := by
  obtain ⟨hloTracking, hhiTracking⟩ := clampNat_within (lo := 1) (hi := 200) (by decide) p.trackingRise
  obtain ⟨hloRecovery, -⟩ := clampNat_within (lo := 1) (hi := 200) (by decide) p.recoveryRise
  rw [ModeProfile.constrain_eq]
  exact ⟨clampNat_within (by decide) _, clampNat_within (by decide) _, clampNat_within (by decide) _,
    ⟨hloTracking, hhiTracking⟩, ⟨Nat.le_min.mpr ⟨hloTracking, hloRecovery⟩, (Nat.min_le_left _ _).trans hhiTracking⟩,
    clampNat_within (by decide) _, clampNat_zero_le _ _, (Nat.min_le_right _ _).trans (clampNat_zero_le _ _),
    clampNat_within (by decide) _, clampNat_within (by decide) _, clampNat_within (by decide) _, clampNat_zero_le _ _,
    clampNat_zero_le _ _, Nat.min_le_left _ _, Nat.min_le_left _ _⟩

/-- The loader's clamps give a profile in its ranges, from any fields of the right number (R182). -/
theorem Profile.clampFields_inRange {p : Profile} (hcode : p.serviceCode ≤ 255) (hload : p.loadTable.length = 4)
    (hgrip : p.gripMap.length = 14) : p.clampFields.inRange := by
  obtain ⟨hperiod, hmultiple⟩ := clampCutPeriod_inRange p.cutPeriod
  refine ⟨clampNat_zero_le _ _, hcode, clampNat_within (by decide) _, clampNat_zero_le _ _,
    clampNat_zero_le _ _, hperiod, hmultiple, clampNat_within (by decide) _, clampNat_within (by decide) _,
    clampNat_within (by decide) _, clampNat_within (by decide) _, clampNat_within (by decide) _,
    by simpa [Profile.clampFields] using hload, fun r hr => ?_, by simpa [Profile.clampFields] using hgrip,
    fun r hr => ?_, fun m => ?_, fun e => ?_⟩
  · obtain ⟨row, -, rfl⟩ := List.mem_map.mp hr
    exact row.clampFields_inRange
  · obtain ⟨row, -, rfl⟩ := List.mem_map.mp hr
    exact row.clampFields_inRange
  · cases m <;> exact ModeProfile.constrain_clampFields_inRange _
  · cases e <;> exact Binding.clampFields_inRange _

/-- Every image gives a running profile in its ranges, accepted or not (R181, R182). -/
theorem profileOf_inRange (m : Memory) : (profileOf m).inRange := by
  unfold profileOf
  split
  · exact fallbackProfile_inRange
  · exact Profile.clampFields_inRange (Nat.le_of_lt_succ (m.read 2).isLt) rfl rfl

end Sys2Proof.Machine
end

section
/-! The load record: its source, its nearest row, its ranges (R40..R42). -/

namespace Sys2Proof.Machine

/-! ### The nearest row -/

theorem LoadRow.distance_eq (r : LoadRow) (a : Nat) : r.distance a = (r.added - a) + (a - r.added) := by
  unfold LoadRow.distance
  omega

/-- Row `i` of a table is taken before row `j` for an estimate: it is at least as near, on a tie it has at least the
added mass, and with equal added mass it does not stand before `j` (R42). -/
def takenBefore (row : Nat → LoadRow) (a i j : Nat) : Prop :=
  (row i).distance a ≤ (row j).distance a ∧
    ((row i).distance a = (row j).distance a → (row j).added ≤ (row i).added) ∧
    ((row i).distance a = (row j).distance a → (row j).added = (row i).added → j ≤ i)

/-- The row found so far is taken before the rows up to it; the search ends with one taken before all rows. -/
theorem nearestFrom_takenBefore (row : Nat → LoadRow) (a m : Nat) {n i : Nat} (hi : i < n)
    (hbest : ∀ j < n, takenBefore row a i j) :
    ∃ k < n + m, nearestFrom a (row i) ((List.range' n m).map row) = row k ∧
      ∀ j < n + m, takenBefore row a k j := by
  induction m generalizing n i with
  | zero => exact ⟨i, hi, rfl, hbest⟩
  | succ m ih =>
    rw [List.range'_succ, List.map_cons, nearestFrom, ← Nat.succ_add_eq_add_succ]
    split
    · next hnear =>
      refine ih (Nat.lt_succ_self n) fun j hj => ?_
      rcases Nat.lt_succ_iff_lt_or_eq.mp hj with hlt | rfl
      · have hold := hbest j hlt
        unfold takenBefore at hold ⊢
        omega
      · unfold takenBefore
        omega
    · next hfar =>
      refine ih (Nat.lt_succ_of_lt hi) fun j hj => ?_
      rcases Nat.lt_succ_iff_lt_or_eq.mp hj with hlt | rfl
      · exact hbest j hlt
      · unfold takenBefore
        omega

/-- The nearest row of a load table of four rows is a row of the table that is taken before every row (R42). -/
theorem Profile.nearestRow_spec {p : Profile} (hp : p.loadTable.length = 4) (a : Nat) :
    ∃ i < 4, p.nearestRow a = p.loadRow i ∧ ∀ j < 4, takenBefore p.loadRow a i j := by
  have htable : p.loadTable.tail = (List.range' 1 3).map p.loadRow := by
    match h : p.loadTable, hp with
    | [r₀, r₁, r₂, r₃], _ => simp [Profile.loadRow, h, List.range']
  have hfirst : ∀ j < 1, takenBefore p.loadRow a 0 j := by
    intro j hj
    obtain rfl : j = 0 := by omega
    unfold takenBefore
    omega
  rw [Profile.nearestRow, htable]
  exact nearestFrom_takenBefore p.loadRow a 3 Nat.zero_lt_one hfirst

/-! ### The record by its source -/

section

variable {s : State}

theorem State.loadRecord_of_suspension {a : Nat} (h : s.topics.addedMass = some a) :
    s.loadRecord = s.profile.loadRecord a (s.profile.nearestRow a) .suspension := by
  simp only [State.loadRecord, h]

theorem State.loadRecord_of_dash {k : Nat} (hmass : s.topics.addedMass = none)
    (h : s.topics.loadSetting = some k) :
    s.loadRecord = s.profile.loadRecord (s.profile.loadRow k).added (s.profile.loadRow k) .dash := by
  simp only [State.loadRecord, hmass, h]

theorem State.loadRecord_of_default (hmass : s.topics.addedMass = none) (h : s.topics.loadSetting = none) :
    s.loadRecord = s.profile.loadRecord (s.profile.loadRow 0).added (s.profile.loadRow 0) .default := by
  simp only [State.loadRecord, hmass, h]

end

theorem Profile.loadRecord_eq (p : Profile) (added : Nat) (row : LoadRow) (source : LoadSource) :
    p.loadRecord added row source =
      ⟨max 250 (min 800 (p.baseMass + added)), row.height, row.rearShare, source⟩ := by
  rw [Profile.loadRecord, clampNat_eq_max_min (by decide)]

/-- Settles O33: the first source that gives one, and for the suspension's estimate the row that the search ends
with. -/
theorem loadRecordTakesTheFirstSource : Obligations.LoadRecordTakesTheFirstSource := by
  intro s hlength p apart made
  refine ⟨fun a hmass => ?_, fun k hmass hsetting => ?_, fun hmass hsetting => ?_⟩
  · obtain ⟨i, hi, hrow, hbefore⟩ := Profile.nearestRow_spec hlength a
    refine ⟨i, hi, ?_, fun j hj => ?_⟩
    · rw [State.loadRecord_of_suspension hmass, hrow, Profile.loadRecord_eq]
    · have hbefore := hbefore j hj
      rw [takenBefore, LoadRow.distance_eq, LoadRow.distance_eq] at hbefore
      exact hbefore
  · rw [State.loadRecord_of_dash hmass hsetting, Profile.loadRecord_eq]
  · rw [State.loadRecord_of_default hmass hsetting, Profile.loadRecord_eq]

end Sys2Proof.Machine
end

section
/-! The load latch and the rider requests (R44..R47, R50, R51, R53). -/

namespace Sys2Proof.Machine

/-! ### The load latch -/

theorem State.setSelector_self (s : State) : s.setSelector s.selector = s := rfl

theorem State.latchArrival_of_absent {s : State} (h : s.topics.frontSpeed = none) : s.latchArrival = s := by
  simp only [State.latchArrival, h]

theorem State.latchArrival_of_speed {s : State} {v : Nat} (h : s.topics.frontSpeed = some v) :
    s.latchArrival =
      s.setSelector (s.selector.evaluateLatch v s.topics.wheelSpeeds.staleEpisodes s.now) := by
  simp only [State.latchArrival, h]

section

variable {x : Selector} {v : Nat} (stale now : Nat)

theorem Selector.evaluateLatch_of_opened (h : x.latch = .opened) :
    x.evaluateLatch v stale now = if 500 ≤ v then { x with latch := .latched } else x := by
  simp only [Selector.evaluateLatch, h]

theorem Selector.evaluateLatch_of_moving (h : x.latch = .latched) (hv : 100 ≤ v) :
    x.evaluateLatch v stale now = { x with atRestEnds := none } := by
  simp only [Selector.evaluateLatch, h, if_pos hv]

theorem Selector.evaluateLatch_of_resting (h : x.latch = .latched) (hv : v < 100) :
    x.evaluateLatch v stale now =
      if x.timerStands stale then x
      else { x with atRestEnds := some (now + 20000), notedStale := stale } := by
  simp only [Selector.evaluateLatch, h, if_neg (Nat.not_le.mpr hv)]
  rfl

theorem Selector.timerStands_iff :
    x.timerStands stale = true ↔ x.atRestEnds.isSome = true ∧ x.notedStale = stale := by
  simp [Selector.timerStands]

end

/-! ### The at-rest timer runs out -/

section

variable (s : State)

theorem exec_atRestExpiry_of_due {s : State} {d : Nat} (h : s.selector.atRestEnds = some d) :
    exec .atRestExpiry s = .next (s.until d).atRestExpired := by
  simp only [exec, execAtRestExpiry, h]

theorem State.atRestExpired_of_void {s : State} (h : s.topics.wheelSpeeds.freshness = .stale ∨
    s.topics.wheelSpeeds.staleEpisodes ≠ s.selector.notedStale) :
    s.atRestExpired = s.setSelector { s.selector with atRestEnds := none } := if_pos h

theorem State.atRestExpired_of_standing {s : State} (hfresh : s.topics.wheelSpeeds.freshness ≠ .stale)
    (hstale : s.topics.wheelSpeeds.staleEpisodes = s.selector.notedStale) :
    s.atRestExpired =
      (s.setSelector { s.selector with atRestEnds := none, latch := .opened }).recomputeLoad :=
  if_neg (not_or.mpr ⟨hfresh, not_not.mpr hstale⟩)

theorem State.drawBudget_of_records {s : State} {lean : LeanRecord} {load : LoadRecord}
    (hlean : s.estimator.latest = some lean) (hload : s.selector.load = some load) :
    s.drawBudget = s.setGrip (s.grip.keep (s.budgetRecord lean load)) := by
  simp only [State.drawBudget, hlean, hload]

theorem State.drawBudget_of_no_lean {s : State} (h : s.estimator.latest = none) : s.drawBudget = s := by
  simp only [State.drawBudget, h]

theorem State.drawBudget_of_no_load {s : State} (h : s.selector.load = none) : s.drawBudget = s := by
  cases hlean : s.estimator.latest <;> simp only [State.drawBudget, hlean, h]

/-- The state with the load record that the entries now give (R42, R43). -/
def State.renewLoad : State := s.setSelector { s.selector with load := some s.loadRecord }

theorem State.recomputeLoad_eq : s.recomputeLoad = s.renewLoad.drawBudget := rfl

theorem State.recomputeLoad_selector : s.recomputeLoad.selector = { s.selector with load := some s.loadRecord } :=
  State.drawBudget_selector s.renewLoad

/-- Without a lean record no budget is drawn from the new load record (R77). -/
theorem State.recomputeLoad_of_no_lean {s : State} (h : s.estimator.latest = none) : s.recomputeLoad.grip = s.grip := by
  rw [State.recomputeLoad_eq, State.drawBudget_of_no_lean (s := s.renewLoad) h]
  rfl

/-- With a lean record the new load record gives a budget (R43, R77). -/
theorem State.recomputeLoad_of_lean {s : State} {lean : LeanRecord} (h : s.estimator.latest = some lean) :
    s.recomputeLoad.grip = s.grip.keep (s.renewLoad.budgetRecord lean s.loadRecord) := by
  rw [State.recomputeLoad_eq, State.drawBudget_of_records (s := s.renewLoad) h rfl]
  rfl

end

/-- Settles O32: the arrival by the latch and the speed, the expiry by what the stale episodes say. -/
theorem latchFollowsTheFrontSpeed : Obligations.LatchFollowsTheFrontSpeed := by
  constructor
  · intro s x stale
    refine ⟨State.latchArrival_of_absent, fun v hv => ?_⟩
    rw [State.latchArrival_of_speed hv]
    refine ⟨fun hlatch h => ?_, fun hlatch h => ?_, fun hlatch h => ?_, fun hlatch h hruns hnoted => ?_,
      fun hlatch h hruns => ?_⟩
    · rw [Selector.evaluateLatch_of_opened _ _ hlatch, if_pos h]
    · rw [Selector.evaluateLatch_of_opened _ _ hlatch, if_neg (Nat.not_le.mpr h), State.setSelector_self]
    · rw [Selector.evaluateLatch_of_moving _ _ hlatch h]
    · rw [Selector.evaluateLatch_of_resting _ _ hlatch h, if_pos ((Selector.timerStands_iff _).mpr ⟨hruns, hnoted⟩),
        State.setSelector_self]
    · rw [Selector.evaluateLatch_of_resting _ _ hlatch h, if_neg]
      rw [Selector.timerStands_iff]
      rintro ⟨hsome, hnoted⟩
      rcases hruns with hnone | hother
      · simp [x, hnone] at hsome
      · exact hother hnoted
  · intro s d hdue
    let u : State := s.until d
    refine ⟨u.atRestExpired, exec_atRestExpiry_of_due hdue, State.atRestExpired_now u, fun hvoid => ?_,
      fun hfresh hstale => ?_⟩
    · rw [State.atRestExpired_of_void (s := u) hvoid]
      refine ⟨rfl, fun p hp => ?_⟩
      cases p <;> simp_all [State.agreesOn, u]
    · rw [State.atRestExpired_of_standing (s := u) hfresh hstale]
      let w : State := u.setSelector { u.selector with atRestEnds := none, latch := .opened }
      have hload : w.loadRecord = s.loadRecord := State.loadRecord_congr rfl rfl
      refine ⟨?_, State.recomputeLoad_of_no_lean (s := w), fun r hr => ?_, fun p hp => ?_⟩
      · rw [State.recomputeLoad_selector, hload]
        rfl
      · have hgrip := State.recomputeLoad_of_lean (s := w) hr
        rw [hload] at hgrip
        rw [hgrip]
        exact ⟨rfl, _, rfl, rfl, congrArg (BitVec.ofNat 32) (State.recomputeLoad_now w).symm, rfl⟩
      · cases p <;> simp_all [State.agreesOn, u]

/-! ### Rider requests -/

section

variable {s : State} {m : Nat} {o : Int}

theorem State.requestArrival_of_absent (h : s.topics.dashMode = none ∨ s.topics.dashOffset = none) :
    s.requestArrival = s := by
  unfold State.requestArrival
  split
  · next hmode hoffset => simp [hmode, hoffset] at h
  · rfl

theorem State.requestArrival_of_present (hmode : s.topics.dashMode = some m) (hoffset : s.topics.dashOffset = some o) :
    s.requestArrival =
      s.setSelector (if s.loader.fallback then s.selector.ignoreRequest ⟨Mode.ofNumber m, o⟩
        else s.selector.judgeRequest ⟨Mode.ofNumber m, o⟩) := by
  simp only [State.requestArrival, hmode, hoffset]

theorem State.mayAdopt_of_quiet {d : Nat}
    (hleft : s.drive.stateLeft = .passive ∨ s.drive.stateLeft = .tracking ∨ s.drive.stateLeft = .inhibited)
    (hdemand : s.topics.riderDemand = some d) (hd : d ≤ s.modeProfile.driveFloor) : s.mayAdopt = true := by
  rcases hleft with h | h | h <;> simp [State.mayAdopt, h, hdemand, hd]

theorem State.mayAdopt_of_intervening
    (hleft : s.drive.stateLeft = .cutting ∨ s.drive.stateLeft = .holding ∨ s.drive.stateLeft = .ramping) :
    s.mayAdopt = false := by
  rcases hleft with h | h | h <;> simp [State.mayAdopt, h]

theorem State.mayAdopt_of_absent (h : s.topics.riderDemand = none) : s.mayAdopt = false := by
  simp [State.mayAdopt, h]

theorem State.mayAdopt_of_demand {d : Nat} (h : s.topics.riderDemand = some d)
    (hd : s.modeProfile.driveFloor < d) : s.mayAdopt = false := by
  simp [State.mayAdopt, h, Nat.not_le.mpr hd]

theorem State.testAdoption_of_quiet {r : ModeRequest} (hr : s.selector.request = some r) (h : s.mayAdopt = true) :
    s.testAdoption = s.setSelector (s.selector.adopt r) := by
  simp only [State.testAdoption, hr, h, if_true]

theorem State.testAdoption_of_waiting (h : s.mayAdopt = false) : s.testAdoption = s := by
  unfold State.testAdoption
  split
  · rw [if_neg (by simp [h])]
  · rfl

end

/-- Settles O34: the arrival by the profile that runs and by what is asked for, the adoption by its two conditions. -/
theorem requestsWaitForAQuietMoment : Obligations.RequestsWaitForAQuietMoment := by
  intro s x left
  refine ⟨State.requestArrival_of_absent, fun m o hmode hoffset hloaded => ?_, fun m o hmode hoffset hfallback => ?_,
    fun r d hr hleft hdemand hd => State.testAdoption_of_quiet hr (State.mayAdopt_of_quiet hleft hdemand hd),
    fun hleft => State.testAdoption_of_waiting (State.mayAdopt_of_intervening hleft),
    fun hdemand => State.testAdoption_of_waiting (State.mayAdopt_of_absent hdemand),
    fun d hdemand hd => State.testAdoption_of_waiting (State.mayAdopt_of_demand hdemand hd)⟩
  · rw [State.requestArrival_of_present hmode hoffset, hloaded, if_neg Bool.false_ne_true]
    refine ⟨fun hinForce => ?_, fun hother => ?_⟩
    · rw [State.setSelector_selector, Selector.judgeRequest, if_pos hinForce]
      refine ⟨rfl, rfl, ?_⟩
      cases x.request <;> rfl
    · rw [Selector.judgeRequest, if_neg hother]
  · rw [State.requestArrival_of_present hmode hoffset, hfallback, if_pos rfl]
    refine ⟨fun hinForce => ?_, fun hother => ?_⟩
    · rw [Selector.ignoreRequest, if_pos hinForce, State.setSelector_self]
    · rw [Selector.ignoreRequest, if_neg hother]

end Sys2Proof.Machine
end

section
/-! The ranges of a load record, of a lean record and of the budget record that is drawn from the two: each holds for
any decoded fields in their ranges under a profile in its ranges (R26, R32, R40..R42, R55..R69, R78, R84..R91). -/

namespace Sys2Proof.Machine

/-! ### Readings -/

/-- What a reader finds in an entry is absent or in the range of its field (R26, R32). -/
theorem Entry.reading_within {x : Entry} {e : EntryName} (h : x.inOrder e) {i : Nat} {r : Int × Int}
    (hr : ((fieldForms e).flatMap FieldForm.ranges)[i]? = some r) : fieldWithin (x.reading i) r := by
  unfold Entry.reading
  split
  · next husable =>
    have hnever : x.freshness ≠ .never := by
      rcases (Entry.usable_iff x).mp husable with hfresh | hlate
      · simp [hfresh]
      · simp [hlate]
    rw [Entry.inOrder, if_neg hnever] at h
    obtain ⟨-, -, hfields⟩ := h
    obtain ⟨hlength, hget⟩ := List.forall₂_iff_get.mp (fieldsInRange_iff.mp hfields)
    obtain ⟨hi, rfl⟩ := List.getElem?_eq_some_iff.mp hr
    rw [List.getD_eq_getElem _ _ (hlength ▸ hi)]
    exact hget i (hlength ▸ hi) hi
  · exact fieldWithin_none r

section

variable {s : State}

theorem State.loadSetting_lt (h : s.entriesInOrder) {k : Nat} (hk : s.topics.loadSetting = some k) : k < 4 := by
  obtain ⟨v, hv, rfl⟩ := Option.map_eq_some_iff.mp hk
  obtain ⟨-, hhi⟩ := Entry.reading_within (h .dashSelect) (i := 1) (r := (0, 3)) rfl v hv
  simp only at hhi
  omega

theorem State.podAngle_within (h : s.entriesInOrder) : fieldWithin s.topics.podAngle (-650, 650) :=
  Entry.reading_within (h .inertialLean) rfl

/-! ### The load record -/

theorem Profile.inRange.row {p : Profile} (hp : p.inRange) {i : Nat} (hi : i < 4) :
    within 300 1200 (p.loadRow i).height ∧ within 256 768 (p.loadRow i).rearShare := by
  obtain ⟨-, -, -, -, -, -, -, -, -, -, -, -, hlength, hrows, -⟩ := hp
  rw [Profile.loadRow, List.getD_eq_getElem _ _ (hlength ▸ hi)]
  obtain ⟨-, hrow⟩ := hrows _ (List.getElem_mem (hlength ▸ hi))
  exact hrow

theorem Profile.inRange.loadRecord {p : Profile} (hp : p.inRange) {i : Nat} (hi : i < 4) (added : Nat)
    (source : LoadSource) : (p.loadRecord added (p.loadRow i) source).inRange :=
  ⟨clampNat_within (by decide) _, hp.row hi⟩

/-- Whatever its source, a load record takes its row from the load table (R40, R42). -/
theorem State.loadRecord_inRange (hp : s.profile.inRange) (he : s.entriesInOrder) : s.loadRecord.inRange := by
  cases hmass : s.topics.addedMass with
  | some a =>
    have hlength : s.profile.loadTable.length = 4 := by
      obtain ⟨-, -, -, -, -, -, -, -, -, -, -, -, hlength, -⟩ := hp
      exact hlength
    obtain ⟨i, hi, hrow, -⟩ := Profile.nearestRow_spec hlength a
    rw [State.loadRecord_of_suspension hmass, hrow]
    exact hp.loadRecord hi a .suspension
  | none =>
    cases hsetting : s.topics.loadSetting with
    | some k =>
      rw [State.loadRecord_of_dash hmass hsetting]
      exact hp.loadRecord (State.loadSetting_lt he hsetting) _ .dash
    | none =>
      rw [State.loadRecord_of_default hmass hsetting]
      exact hp.loadRecord (by decide) _ .default

end

/-! ### The candidates -/

/-- The table entry after the degree found lies above the ratio, when the last one does. -/
theorem lt_tanQ_degreeBelow_succ (n q : Nat) (h : q < tanQ (n + 1)) : q < tanQ (degreeBelow n q + 1) := by
  induction n with
  | zero => exact h
  | succ n ih =>
    rw [degreeBelow]
    split
    · exact h
    · exact ih (Nat.lt_of_not_le ‹_›)

theorem degreeBelow_le (n q : Nat) : degreeBelow n q ≤ n := by
  induction n with
  | zero => exact Nat.le_refl 0
  | succ n ih =>
    rw [degreeBelow]
    split
    · exact Nat.le_refl _
    · exact Nat.le_succ_of_le ih

/-- A lean taken from the tangent table is at most 65.00 degrees (R60). -/
theorem leanOfRatio_le (q : Nat) : leanOfRatio q ≤ 6500 := by
  unfold leanOfRatio
  split
  · exact Nat.le_refl _
  · next hq =>
    let d := degreeBelow 64 q
    have habove : q < tanQ (d + 1) := lt_tanQ_degreeBelow_succ 64 q (Nat.lt_of_not_le hq)
    have hdegree : d ≤ 64 := degreeBelow_le 64 q
    have hhundredths : 100 * (q - tanQ d) / (tanQ (d + 1) - tanQ d) ≤ 100 := by
      apply Nat.div_le_of_le_mul
      rw [Nat.mul_comm]
      exact Nat.mul_le_mul_right _ (by omega)
    show 100 * d + 100 * (q - tanQ d) / (tanQ (d + 1) - tanQ d) ≤ 6500
    omega

/-- The range of a lean in centidegrees (R60, R62, R63). -/
def leanRange : Int × Int := (-6500, 6500)

theorem kinematicCandidate_within (yaw : Option Int) (speed : Option Nat) :
    fieldWithin (kinematicCandidate yaw speed) leanRange := by
  unfold kinematicCandidate
  repeat' split
  · next w v _ =>
    have hle := leanOfRatio_le (lateralRatio v w.natAbs)
    rw [fieldWithin_some, leanRange, withSign]
    repeat' split
    all_goals omega
  · exact fieldWithin_none _
  · exact fieldWithin_none _

theorem podCandidate_within {angle : Option Int} (h : fieldWithin angle (-650, 650)) (confidence : Option Nat) :
    fieldWithin (podCandidate angle confidence) leanRange := by
  unfold podCandidate
  repeat' split
  · have hangle := fieldWithin_some.mp h
    rw [fieldWithin_some, leanRange]
    omega
  · exact fieldWithin_none _
  · exact fieldWithin_none _

theorem integratedCandidate_within (roll : Option Int) (base : Option LeanBase) (now : Nat) :
    fieldWithin (integratedCandidate roll base now) leanRange := by
  unfold integratedCandidate
  split
  · rw [fieldWithin_some, leanRange, clampInt_eq_max_min (by decide)]
    omega
  · exact fieldWithin_none _

/-! ### The lean record -/

theorem median_within {a b c : Int} {r : Int × Int} (ha : fieldWithin (some a) r) (hb : fieldWithin (some b) r)
    (hc : fieldWithin (some c) r) : fieldWithin (some (median a b c)) r := by
  rw [fieldWithin_some] at *
  unfold median
  omega

theorem largerLean_within {a b : Int} {r : Int × Int} (ha : fieldWithin (some a) r) (hb : fieldWithin (some b) r) :
    fieldWithin (some (largerLean a b)) r := by
  unfold largerLean
  split
  · exact hb
  · exact ha

/-- The selected lean is one of the candidates or the assumed lean (R64..R67). -/
theorem selectLean_within {k p i : Option Int} {assumed : Nat} (hk : fieldWithin k leanRange)
    (hp : fieldWithin p leanRange) (hi : fieldWithin i leanRange) (ha : assumed ≤ 6500) :
    fieldWithin (some (selectLean k p i assumed).1) leanRange :=
  match k, p, i with
  | some _, some _, some _ => median_within hk hp hi
  | some _, some _, none => largerLean_within hk hp
  | some _, none, some _ => largerLean_within hk hi
  | none, some _, some _ => largerLean_within hp hi
  | some _, none, none => hk
  | none, some _, none => hp
  | none, none, some _ => hi
  | none, none, none => fieldWithin_some.mpr (by simp only [leanRange, selectLean]; omega)

/-- Band and published lean follow from the selected lean (R68, R69). -/
theorem makeLeanRecord_inRange (cause : LeanCause) {k p i : Option Int} {assumed : Nat} (time : Stamp)
    (h : fieldWithin (some (selectLean k p i assumed).1) leanRange) :
    (makeLeanRecord cause k p i assumed time).inRange := by
  obtain ⟨hlo, hhi⟩ : -6500 ≤ (selectLean k p i assumed).1 ∧ (selectLean k p i assumed).1 ≤ 6500 :=
    fieldWithin_some.mp h
  have hpublished : -650 ≤ tenthRounded (selectLean k p i assumed).1 ∧
      tenthRounded (selectLean k p i assumed).1 ≤ 650 := by
    unfold tenthRounded
    split <;> omega
  have hband : (selectLean k p i assumed).1.natAbs / 500 ≤ 13 := by omega
  exact ⟨hlo, hhi, rfl, hband, rfl, hpublished⟩

/-- A lean record made under a profile in its ranges from entries in order lies in its ranges (R55, R68). -/
theorem State.leanRecord_inRange {s : State} (hp : s.profile.inRange) (he : s.entriesInOrder) (cause : LeanCause) :
    (s.leanRecord cause).inRange := by
  obtain ⟨-, -, -, hassumed, -⟩ := hp
  refine makeLeanRecord_inRange cause s.stamp (selectLean_within ?_ ?_ ?_ hassumed)
  · split
    · exact kinematicCandidate_within _ _
    · exact fieldWithin_none _
  · split
    · exact fieldWithin_none _
    · exact podCandidate_within (State.podAngle_within he) _
  · split
    · exact integratedCandidate_within _ _ _
    · exact fieldWithin_none _

/-! ### The seven stages of a budget -/

theorem effectiveGrip_within (muBase : Nat) (corr : Int) (gripScale : Nat) (offset : Int) :
    within 205 1536 (effectiveGrip muBase corr gripScale offset) := by
  rw [effectiveGrip, clampInt_eq_max_min (by decide)]
  unfold within
  omega

theorem tanQ_succ_le : ∀ d < 65, tanQ d ≤ tanQ (d + 1) ∧ tanQ (d + 1) ≤ 2196 := by decide

/-- The lateral use of a lean of at most 65.00 degrees is at most the last tangent (R85). -/
theorem lateralUseOf_le {magnitude : Nat} (h : magnitude ≤ 6500) : lateralUseOf magnitude ≤ 2196 := by
  unfold lateralUseOf
  rcases Nat.lt_or_ge magnitude 6500 with hlt | hge
  · obtain ⟨hrise, hle⟩ := tanQ_succ_le (magnitude / 100) (by omega)
    have hpart : (tanQ (magnitude / 100 + 1) - tanQ (magnitude / 100)) * (magnitude % 100) / 100 ≤
        tanQ (magnitude / 100 + 1) - tanQ (magnitude / 100) :=
      Nat.div_le_of_le_mul (by rw [Nat.mul_comm]; exact Nat.mul_le_mul_right _ (by omega))
    dsimp only
    omega
  · obtain rfl : magnitude = 6500 := Nat.le_antisymm h hge
    decide

theorem allowanceOf_le (muEff u : Nat) : allowanceOf muEff u ≤ muEff := by
  unfold allowanceOf
  split
  · exact Nat.zero_le _
  · exact isqrt_le (Nat.sub_le _ _)

theorem totalLoadOf_within {mass : Nat} (h : within 250 800 mass) : within 2452 7848 (totalLoadOf mass) := by
  unfold totalLoadOf within at *
  omega

theorem rearLoadOf_le {share : Nat} (h : share ≤ 768) (total : Nat) : rearLoadOf total share ≤ total :=
  Nat.div_le_of_le_mul (by rw [Nat.mul_comm 1024]; exact Nat.mul_le_mul_left _ (by omega))

theorem transferOf_le (mass height wheelbase rear : Nat) (accel : Option Int) :
    transferOf mass height wheelbase rear accel ≤ rear := by
  unfold transferOf
  repeat' split
  · exact Nat.min_le_right _ _
  · exact Nat.zero_le _
  · exact Nat.zero_le _

theorem driveGripLimitOf_le {floor top : Nat} (h : floor ≤ top) (allowance rear radius : Nat) :
    driveGripLimitOf allowance rear radius floor top ≤ top := clampNat_le h _

theorem brakeLimitOf_le {floor : Nat} (h : floor ≤ 2000) (allowance load gain : Nat) :
    brakeLimitOf allowance load gain floor ≤ 2000 := clampNat_le (hi := brakeMaximum) h _

/-- A budget drawn under a profile in its ranges from a lean and a load record in theirs lies in its ranges
(R84..R91). -/
theorem State.budgetRecord_inRange {s : State} (hp : s.profile.inRange) {lean : LeanRecord} {load : LoadRecord}
    (hlean : lean.inRange) (hload : load.inRange) : (s.budgetRecord lean load).inRange := by
  obtain ⟨hlo, hhi, -, hband, -⟩ := hlean
  obtain ⟨hmass, -, -, hshare⟩ := hload
  obtain ⟨-, -, -, -, -, -, -, -, -, -, -, -, -, -, -, -, hmodes, -⟩ := hp
  obtain ⟨-, -, -, -, -, -, -, -, ⟨-, hmax⟩, -, -, hfront, hrear, -, hfloor⟩ := hmodes s.selector.mode
  have hsplit := rearLoadOf_le hshare (totalLoadOf load.mass)
  have htransfer := transferOf_le load.mass load.height s.profile.wheelbase
    (rearLoadOf (totalLoadOf load.mass) load.rearShare) s.topics.longAccel
  refine ⟨hband, effectiveGrip_within _ _ _ _, lateralUseOf_le (by omega), allowanceOf_le _ _, decide_eq_true_iff,
    totalLoadOf_within hmass, Nat.sub_add_cancel hsplit, ?_, Nat.sub_le _ _, (driveGripLimitOf_le hfloor _ _ _).trans hmax,
    brakeLimitOf_le hfront _ _ _, ?_, decide_eq_true_iff⟩
  · simp only [State.budgetRecord]
    omega
  · simp only [State.budgetRecord]
    split
    · exact hrear
    · exact brakeLimitOf_le hrear _ _ _

end Sys2Proof.Machine
end

section
/-! The load record and the budget record stay in their ranges: what makes a new one makes it in its range, and every
other operation leaves the latest one (R42, R43, R55, R77, R84..R91). -/

namespace Sys2Proof.Machine

/-- The running profile, the entries and the latest lean, load and budget records lie in their ranges: the records, and
all that new ones are made from. -/
structure State.recordsInRange (s : State) : Prop where
  profile : s.profile.inRange
  entries : s.entriesInOrder
  lean : ∀ r, s.estimator.latest = some r → r.inRange
  load : s.loadInRange
  budget : s.budgetInRange

/-- From `s` to `t` the running profile and the latest records stay. -/
structure State.SameRecords (s t : State) : Prop where
  profile : t.loader.profile = s.loader.profile
  lean : t.estimator.latest = s.estimator.latest
  load : t.selector.load = s.selector.load
  budget : t.grip.latest = s.grip.latest

section

variable {s t u : State}

theorem State.SameRecords.trans (h : s.SameRecords t) (k : t.SameRecords u) : s.SameRecords u :=
  ⟨k.profile.trans h.profile, k.lean.trans h.lean, k.load.trans h.load, k.budget.trans h.budget⟩

/-- An operation that leaves the loader and the three blocks alone leaves their records. -/
theorem State.SameRecords.of_blocks (h : t.loader = s.loader ∧ t.estimator = s.estimator ∧ t.selector = s.selector ∧
    t.grip = s.grip) : s.SameRecords t := by
  obtain ⟨hloader, hestimator, hselector, hgrip⟩ := h
  exact ⟨by rw [hloader], by rw [hestimator], by rw [hselector], by rw [hgrip]⟩

theorem State.recordsInRange.of_same (h : s.recordsInRange) (k : s.SameRecords t) (he : t.entriesInOrder) :
    t.recordsInRange where
  profile := by rw [State.profile, k.profile]; exact h.profile
  entries := he
  lean := by rw [k.lean]; exact h.lean
  load := by rw [State.loadInRange, k.load]; exact h.load
  budget := by rw [State.budgetInRange, k.budget]; exact h.budget

theorem State.recordsInRange.of_same_topics (h : s.recordsInRange) (k : s.SameRecords t)
    (htopics : t.topics = s.topics) : t.recordsInRange :=
  h.of_same k (State.entriesInOrder_congr htopics h.entries)

/-! ### New records -/

/-- A budget is drawn from the latest records, or none is (R77). -/
theorem State.drawBudget_recordsInRange (h : s.recordsInRange) : s.drawBudget.recordsInRange where
  profile := by rw [State.profile, State.drawBudget_loader]; exact h.profile
  entries := State.entriesInOrder_congr (State.drawBudget_topics s) h.entries
  lean := by rw [State.drawBudget_estimator]; exact h.lean
  load := by rw [State.loadInRange, State.drawBudget_selector]; exact h.load
  budget := by
    cases hlean : s.estimator.latest with
    | none => rw [State.drawBudget_of_no_lean hlean]; exact h.budget
    | some lean =>
      cases hload : s.selector.load with
      | none => rw [State.drawBudget_of_no_load hload]; exact h.budget
      | some load =>
        rw [State.drawBudget_of_records hlean hload]
        intro b hb
        cases hb
        exact State.budgetRecord_inRange h.profile (h.lean lean hlean) (h.load load hload)

theorem State.renewLoad_recordsInRange (h : s.recordsInRange) : s.renewLoad.recordsInRange where
  profile := h.profile
  entries := h.entries
  lean := h.lean
  load r hr := by
    cases hr
    exact State.loadRecord_inRange h.profile h.entries
  budget := h.budget

theorem State.recomputeLoad_recordsInRange (h : s.recordsInRange) : s.recomputeLoad.recordsInRange :=
  State.drawBudget_recordsInRange (State.renewLoad_recordsInRange h)

theorem State.recomputeIfOpen_recordsInRange (h : s.recordsInRange) : s.recomputeIfOpen.recordsInRange := by
  unfold State.recomputeIfOpen
  split
  · exact State.recomputeLoad_recordsInRange h
  · exact h

/-- An estimate makes a lean record in its range, and then a budget from it (R55, R77). -/
theorem State.estimate_recordsInRange (cause : LeanCause) (h : s.recordsInRange) :
    (s.estimate cause).recordsInRange := by
  let r := s.leanRecord cause
  let u : State := s.setEstimator (s.estimator.keep r)
  have hu : u.recordsInRange :=
    { profile := h.profile
      entries := h.entries
      lean := fun x hx => by
        cases hx
        exact State.leanRecord_inRange h.profile h.entries cause
      load := h.load
      budget := h.budget }
  have hv : u.SameRecords (u.refreshLeanConditions r) := .of_blocks (by simp)
  exact State.drawBudget_recordsInRange (hu.of_same_topics (hv.trans ⟨rfl, rfl, rfl, rfl⟩)
    (State.refreshLeanConditions_topics u r))

theorem State.podArrival_recordsInRange (h : s.recordsInRange) : s.podArrival.recordsInRange := by
  unfold State.podArrival
  split
  · exact h
  · exact State.estimate_recordsInRange .b h

/-! ### What leaves the records -/

variable (s)

theorem State.requestArrival_load : s.requestArrival.selector.load = s.selector.load := by
  unfold State.requestArrival
  split
  · rw [State.setSelector_selector]
    unfold Selector.ignoreRequest Selector.judgeRequest
    repeat' split
    all_goals rfl
  · rfl

theorem State.testAdoption_load : s.testAdoption.selector.load = s.selector.load := by
  unfold State.testAdoption
  repeat' split
  all_goals rfl

theorem State.latchArrival_load : s.latchArrival.selector.load = s.selector.load := by
  unfold State.latchArrival
  split
  · rfl
  · rw [State.setSelector_selector]
    unfold Selector.evaluateLatch
    repeat' split
    all_goals rfl

theorem State.driveNotice_latest (r : StepResult) : (s.driveNotice r).grip.latest = s.grip.latest := by
  unfold State.driveNotice
  split <;> rfl

theorem State.onsetNotice_latest (abs : Option Bool) (memory : Bool) :
    (s.onsetNotice abs memory).grip.latest = s.grip.latest := by
  unfold State.onsetNotice
  repeat' split
  all_goals rfl

theorem State.requestArrival_sameRecords : s.SameRecords s.requestArrival where
  profile := by rw [State.requestArrival_loader]
  lean := by rw [State.requestArrival_estimator]
  load := s.requestArrival_load
  budget := by rw [State.requestArrival_grip]

theorem State.testAdoption_sameRecords : s.SameRecords s.testAdoption where
  profile := by rw [State.testAdoption_loader]
  lean := by rw [State.testAdoption_estimator]
  load := s.testAdoption_load
  budget := by rw [State.testAdoption_grip]

theorem State.latchArrival_sameRecords : s.SameRecords s.latchArrival where
  profile := by rw [State.latchArrival_loader]
  lean := by rw [State.latchArrival_estimator]
  load := s.latchArrival_load
  budget := by rw [State.latchArrival_grip]

theorem State.absArrival_sameRecords : s.SameRecords s.absArrival where
  profile := by rw [State.absArrival_loader]
  lean := by rw [State.absArrival_estimator]
  load := by rw [State.absArrival_selector]
  budget := (State.onsetNotice_latest _ _ _).trans (State.onsetNotice_latest _ _ _)

/-- A regulation step sends a breach notice at most, which changes the table of the unit and no budget (R94). -/
theorem State.regulationStep_sameRecords : s.SameRecords s.regulationStep where
  profile := by rw [State.regulationStep_loader]
  lean := by rw [State.regulationStep_estimator]
  load := by rw [State.regulationStep_selector]
  budget := by
    simp only [State.regulationStep, State.tellStep_grip, State.handover_grip, State.publishLimit_grip,
      State.setDrive_grip]
    exact State.driveNotice_latest _ _

theorem State.chassisReset_sameRecords : s.SameRecords s.chassisReset where
  profile := by rw [State.chassisReset_loader]
  lean := by rw [State.chassisReset_estimator]
  load := by rw [State.chassisReset_selector]
  budget := by rw [State.chassisReset_grip]

theorem State.resetMessage_sameRecords (f : Frame) : s.SameRecords (s.resetMessage f) := by
  unfold State.resetMessage
  split
  · refine State.SameRecords.trans ?_ (State.chassisReset_sameRecords _)
    exact ⟨rfl, rfl, rfl, rfl⟩
  · exact ⟨rfl, rfl, rfl, rfl⟩

variable {s}

/-! ### Arrivals and notices -/

/-- An arrival makes new records from the entries, or leaves the latest ones (R34, R43, R55). -/
theorem State.announce_recordsInRange (e : EntryName) (h : s.recordsInRange) : (s.announce e).recordsInRange := by
  cases e with
  | inertialRates => exact State.estimate_recordsInRange .a h
  | inertialLean => exact State.podArrival_recordsInRange h
  | suspensionState => exact State.recomputeIfOpen_recordsInRange h
  | inertialAccel => exact h
  | wheelSpeeds =>
    have hwindow : s.latchArrival.SameRecords s.latchArrival.windowArrival := .of_blocks (by simp)
    exact h.of_same_topics (s.latchArrival_sameRecords.trans hwindow) (by simp [State.announce])
  | dashSelect =>
    exact (State.recomputeIfOpen_recordsInRange h).of_same_topics
      ((State.requestArrival_sameRecords _).trans (State.testAdoption_sameRecords _))
      (by simp [State.announce, State.dashArrival])
  | engineState =>
    have hecho : s.SameRecords (s.echoArrival .engine) := .of_blocks (by simp)
    exact h.of_same_topics (hecho.trans (State.testAdoption_sameRecords _)) (by simp [State.announce])
  | brakeState =>
    have hecho : s.SameRecords (s.echoArrival .brake) := .of_blocks (by simp)
    exact h.of_same_topics (hecho.trans (State.absArrival_sameRecords _)) (by simp [State.announce])

theorem State.staleNotice_recordsInRange (e : EntryName) (h : s.recordsInRange) :
    (s.staleNotice e).recordsInRange := by
  cases e with
  | inertialRates => exact State.estimate_recordsInRange .c h
  | suspensionState => exact State.recomputeIfOpen_recordsInRange h
  | dashSelect => exact (State.recomputeIfOpen_recordsInRange h).of_same_topics ⟨rfl, rfl, rfl, rfl⟩ rfl
  | inertialAccel | inertialLean => exact h
  | wheelSpeeds | engineState | brakeState =>
    exact h.of_same_topics (.of_blocks (by simp [State.staleNotice])) (State.staleNotice_topics s _)

/-! ### Frames -/

theorem State.accepted_recordsInRange (e : EntryName) (f : Frame) (h : s.recordsInRange) :
    (s.accepted e f).recordsInRange :=
  h.of_same (.of_blocks (by simp [State.accepted]))
    (State.entriesInOrder_of_set (s.accepted_topics e f) (Entry.accept_inOrder _ e f s.now) h.entries)

/-- A frame that an entry discards leaves the records, and one that it accepts is announced (R22..R25, R34). -/
theorem State.offerEntry_recordsInRange (e : EntryName) (f : Frame) (h : s.recordsInRange) :
    (s.offerEntry e f).recordsInRange := by
  have hentries := State.offerEntry_entriesInOrder e f h.entries
  cases hverdict : (s.topics.get e).judge e (s.binding e) f with
  | malformed =>
    rw [State.offerEntry_of_malformed hverdict] at hentries ⊢
    exact h.of_same (.of_blocks (by simp)) hentries
  | intruder =>
    rw [State.offerEntry_of_intruder hverdict] at hentries ⊢
    exact h.of_same (.of_blocks (by simp)) hentries
  | duplicate =>
    rw [State.offerEntry_of_duplicate hverdict] at hentries ⊢
    exact h.of_same (.of_blocks (by simp)) hentries
  | accepted =>
    rw [State.offerEntry_of_accepted hverdict]
    exact State.announce_recordsInRange e (State.accepted_recordsInRange e f h)

theorem State.offerEntries_recordsInRange (f : Frame) (l : List EntryName) (h : s.recordsInRange) :
    (s.offerEntries f l).recordsInRange := by
  induction l generalizing s with
  | nil => exact h
  | cons e rest ih => exact ih (State.offerEntry_recordsInRange e f h)

theorem State.handOver_recordsInRange (f : Frame) (h : s.recordsInRange) : (s.handOver f).recordsInRange := by
  unfold State.handOver
  split
  · exact State.offerEntries_recordsInRange f _ h
  · split
    · exact h.of_same (s.resetMessage_sameRecords f) fun e => by rw [State.resetMessage_get]; exact h.entries e
    · split
      · exact h.of_same_topics (.of_blocks (by simp)) (State.serve_topics s _)
      · exact h.of_same_topics ⟨rfl, rfl, rfl, rfl⟩ rfl

theorem State.receive_recordsInRange (heard : Heard) (h : s.recordsInRange) : (s.receive heard).recordsInRange := by
  cases heard with
  | good f =>
    exact State.handOver_recordsInRange f (h.of_same_topics (.of_blocks (by simp)) (State.driveSlot_topics s _))
  | badHeader | badLength | badPayload => exact h.of_same_topics ⟨rfl, rfl, rfl, rfl⟩ rfl

theorem State.hearFrame_recordsInRange (bits : List Level) (h : s.recordsInRange) :
    (s.hearFrame bits).recordsInRange := by
  unfold State.hearFrame
  split
  · exact State.receive_recordsInRange _ (h.of_same_topics (.of_blocks (by simp)) (State.clashTest_topics s _))
  · exact h

/-! ### The load -/

theorem State.startTimers_latest (s : State) : s.startTimers.grip.latest = s.grip.latest := rfl

/-- The new profile lies in its ranges, and from it the first load record is made (R181..R183). -/
theorem State.loadComplete_recordsInRange (h : s.recordsInRange) : s.loadComplete.recordsInRange := by
  let u : State := (s.setNow 0).fixProfile.enterSilent
  let v : State := u.setSelector (u.selector.startMode u.profile)
  have hv : v.recordsInRange :=
    { profile := by
        have hprofile : u.loader.profile = profileOf s.loader.readImage := by simp [u, State.fixProfile]
        show u.loader.profile.inRange
        rw [hprofile]
        exact profileOf_inRange _
      entries := by
        obtain ⟨-, -, htopics, -⟩ := State.enterSilent_spec (s.setNow 0).fixProfile
        rw [State.fixProfile_topics] at htopics
        exact State.entriesInOrder_of_clearHeard htopics h.entries
      lean := by
        have hlatest : v.estimator = s.estimator := by simp [v, u]
        rw [hlatest]
        exact h.lean
      load := by
        have hload : v.selector.load = s.selector.load := by simp [v, u, Selector.startMode]
        rw [State.loadInRange, hload]
        exact h.load
      budget := by
        have hgrip : v.grip = s.grip := by simp [v, u]
        rw [State.budgetInRange, hgrip]
        exact h.budget }
  refine (State.recomputeLoad_recordsInRange hv).of_same_topics ⟨?_, ?_, ?_, ?_⟩ ?_
  · simp [State.loadComplete, v, u]
  · simp [State.loadComplete, v, u]
  · simp [State.loadComplete, v, u]
  · simp [State.loadComplete, v, u, State.startTimers_latest]
  · simp [State.loadComplete, v, u]

/-! ### The commands -/

/-- At power-on no record exists and the fallback profile stands (R40, R73, R81, R99). -/
theorem State.poweredOn_recordsInRange (m : Memory) (p : List Instr) (d : Nat) :
    (State.poweredOn m p d).recordsInRange where
  profile := fallbackProfile_inRange
  entries := State.entriesInOrder_of_initial rfl
  lean _ h := nomatch h
  load _ h := nomatch h
  budget _ h := nomatch h

theorem State.atRestExpired_recordsInRange (h : s.recordsInRange) : s.atRestExpired.recordsInRange := by
  unfold State.atRestExpired
  dsimp only
  split
  · exact h.of_same_topics ⟨rfl, rfl, rfl, rfl⟩ rfl
  · exact State.recomputeLoad_recordsInRange
      (h.of_same_topics (t := s.setSelector { s.selector with atRestEnds := none, latch := .opened })
        ⟨rfl, rfl, rfl, rfl⟩ rfl)

/-- The commands that can make a lean, load or budget record or change the running profile: power-on, the end of a load,
a heard frame, and the two expiries that make a block take notice. -/
def reachesRecords : Instr → Bool
  | .powerOn | .profileLoadComplete _ | .frameHeard _ _ | .staleExpiry _ | .atRestExpiry => true
  | _ => false

theorem exec_sameRecords_of_not_reaches {c : Instr} (hc : reachesRecords c = false) (h : exec c s = .next t) :
    s.SameRecords t := by
  cases c with
  | powerOn | profileLoadComplete | frameHeard | staleExpiry | atRestExpiry => cases hc
  | frameStart | arbitrationLoss | collided | ackSlotRead | mediumIdle =>
    cases h
    exact .of_blocks (by simp)
  | regulationStep =>
    simp only [exec, execRegulationStep] at h
    split at h
    · cases h
      refine State.SameRecords.trans ?_ (State.regulationStep_sameRecords _)
      exact ⟨rfl, rfl, rfl, rfl⟩
    · cases h
      exact ⟨rfl, rfl, rfl, rfl⟩
  | baseValidityExpiry | reliefExpiry =>
    simp only [exec, execBaseValidityExpiry, execReliefExpiry] at h
    split at h
    all_goals
      cases h
      exact ⟨rfl, rfl, rfl, rfl⟩
  | muteExpiry | joinWaitExpiry | deadlineExpiry | brakeStep | gripState | echoDeadlineExpiry | assertionEndExpiry
  | cutPeriodExpiry | ltStatus | windowExpiry =>
    simp only [exec, execMuteExpiry, execJoinWaitExpiry, execDeadlineExpiry, execBrakeStep, execGripState,
      execEchoDeadlineExpiry, execAssertionEndExpiry, execCutPeriodExpiry, execLtStatus, execWindowExpiry] at h
    split at h
    all_goals
      cases h
      exact .of_blocks (by simp)
  | storePageDone =>
    simp only [exec, execStorePageDone, State.pageDone] at h
    repeat' split at h
    all_goals
      cases h
      exact ⟨rfl, rfl, rfl, rfl⟩
  | storePageBurstEnd | storePageTimeout | storeReadbackComplete | readBurstEnd =>
    simp only [exec, execStorePageBurstEnd, execStorePageTimeout, execStoreReadbackComplete, execReadBurstEnd] at h
    repeat' split at h
    all_goals
      cases h
      exact ⟨by simp [State.takeBurst], by simp, by simp, by simp⟩

theorem exec_recordsInRange {c : Instr} (hs : s.recordsInRange) (h : exec c s = .next t) : t.recordsInRange := by
  cases hc : reachesRecords c with
  | false => exact hs.of_same (exec_sameRecords_of_not_reaches hc h) (exec_entriesInOrder hs.entries h)
  | true =>
    cases c with
    | powerOn =>
      cases h
      exact State.poweredOn_recordsInRange _ _ _
    | profileLoadComplete min =>
      simp only [exec, execProfileLoadComplete] at h
      split at h
      · cases h
        exact State.loadComplete_recordsInRange (hs.of_same_topics ⟨rfl, rfl, rfl, rfl⟩ (State.takeBurst_topics s 3 min))
      · cases h
        exact hs
    | frameHeard after bits =>
      cases h
      exact State.hearFrame_recordsInRange bits (hs.of_same_topics (t := s.elapse after) ⟨rfl, rfl, rfl, rfl⟩ rfl)
    | staleExpiry e =>
      cases hdue : s.staleDue e with
      | none =>
        simp only [exec, execStaleExpiry, hdue, Host.Outcome.next.injEq] at h
        exact h ▸ hs
      | some d =>
        rw [exec_staleExpiry_of_due hdue, Host.Outcome.next.injEq] at h
        obtain ⟨hlate, -⟩ := State.staleDue_eq_some.mp hdue
        have hstale : (s.goneStale e d).entriesInOrder :=
          State.entriesInOrder_of_set rfl (Entry.stale_inOrder hlate (hs.entries e)) hs.entries
        exact h ▸ State.staleNotice_recordsInRange e (hs.of_same ⟨rfl, rfl, rfl, rfl⟩ hstale)
    | atRestExpiry =>
      simp only [exec, execAtRestExpiry] at h
      split at h
      · next d _ =>
        cases h
        exact State.atRestExpired_recordsInRange (hs.of_same_topics (t := s.until d) ⟨rfl, rfl, rfl, rfl⟩ rfl)
      · cases h
        exact hs
    | _ => cases hc

end

/-- Settles O43: every command keeps the records in their ranges together with what new ones are made from, so every
step does. -/
theorem budgetStaysInRange : Obligations.BudgetStaysInRange := by
  intro s t hprofile hentries hlean hload hbudget h
  obtain ⟨hlatest, -, -⟩ := hlean
  have ht : t.recordsInRange := step_keeps (P := State.recordsInRange)
    (fun _ _ hs => hs.of_same_topics ⟨rfl, rfl, rfl, rfl⟩ rfl)
    (fun _ hs => hs.of_same_topics ⟨rfl, rfl, rfl, rfl⟩ rfl)
    (fun _ _ _ => exec_recordsInRange) ⟨hprofile, hentries, hlatest, hload, hbudget⟩ h
  exact ⟨ht.load, ht.budget⟩

end Sys2Proof.Machine
end

section
/-! The latest lean record, the integration base and the disagreement run stay in their ranges: an estimate makes all
three anew in their ranges, the base validity expiry and the chassis reset discard the base, and nothing else reaches the
estimator (R55, R56, R65, R68, R69, R71, R74). -/

namespace Sys2Proof.Machine

section

variable {s t : State}

theorem State.leanInRange_congr (hestimator : t.estimator = s.estimator) (h : s.leanInRange) : t.leanInRange := by
  rwa [State.leanInRange, hestimator]

/-- An estimator without a base and with a disagreement run of at most its present one keeps its ranges. -/
theorem State.leanInRange_of_baseDiscarded {run : Nat}
    (hestimator : t.estimator = { s.estimator with base := none, disagreementRun := run })
    (hrun : run ≤ s.estimator.disagreementRun) (h : s.leanInRange) : t.leanInRange := by
  obtain ⟨hlatest, -, hle⟩ := h
  rw [State.leanInRange, hestimator]
  exact ⟨hlatest, (fun _ hb => nomatch hb), hrun.trans hle⟩

/-! ### The estimate -/

/-- The disagreement run stays at 255 once it has reached it (R71). -/
theorem runAfter_le (run : Nat) (spread : Option Int) : runAfter run spread ≤ 255 := by
  unfold runAfter
  split
  · split
    · exact Nat.min_le_left _ _
    · exact Nat.zero_le _
  · exact Nat.zero_le _

/-- A new base holds the selected lean of the record that made it (R56). -/
theorem lean_of_baseAfter {r : LeanRecord} {now : Nat} {b : LeanBase} (h : baseAfter r now = some b) :
    b.lean = r.selected := by
  unfold baseAfter at h
  split at h
  · cases h
  · cases h
    rfl

/-- Whatever the estimator held, after an estimate all it holds lies in its ranges (R56, R68, R71). -/
theorem State.estimate_leanInRange (cause : LeanCause) (hp : s.profile.inRange) (he : s.entriesInOrder) :
    (s.estimate cause).leanInRange := by
  have hrecord : (s.leanRecord cause).inRange := State.leanRecord_inRange hp he cause
  rw [State.leanInRange, State.estimate_estimator]
  refine ⟨fun r hr => ?_, fun b hb => ?_, runAfter_le _ _⟩
  · cases hr
    exact hrecord
  · obtain ⟨hlo, hhi, -⟩ := hrecord
    rw [lean_of_baseAfter hb]
    exact ⟨hlo, hhi⟩

/-! ### Arrivals and notices -/

/-- Of the arrivals only those of the two inertial entries reach the estimator (R34, R55). -/
theorem State.announce_leanInRange (e : EntryName) (hp : s.profile.inRange) (he : s.entriesInOrder)
    (hl : s.leanInRange) : (s.announce e).leanInRange := by
  cases e with
  | inertialRates => exact State.estimate_leanInRange .a hp he
  | inertialLean =>
    show s.podArrival.leanInRange
    unfold State.podArrival
    split
    · exact hl
    · exact State.estimate_leanInRange .b hp he
  | wheelSpeeds | inertialAccel | engineState | brakeState | suspensionState | dashSelect =>
    exact State.leanInRange_congr (by simp [State.announce]) hl

/-- Of the STALE notices only that of the rates reaches the estimator (R31, R55). -/
theorem State.staleNotice_leanInRange (e : EntryName) (hp : s.profile.inRange) (he : s.entriesInOrder)
    (hl : s.leanInRange) : (s.staleNotice e).leanInRange := by
  cases e with
  | inertialRates => exact State.estimate_leanInRange .c hp he
  | wheelSpeeds | inertialAccel | inertialLean | engineState | brakeState | suspensionState | dashSelect =>
    exact State.leanInRange_congr (by simp [State.staleNotice]) hl

/-- A chassis reset discards the base and clears the run, and an ignored one leaves the estimator (R37, R74). -/
theorem State.resetMessage_leanInRange (f : Frame) (hl : s.leanInRange) : (s.resetMessage f).leanInRange := by
  unfold State.resetMessage
  split
  · exact State.leanInRange_of_baseDiscarded (State.chassisReset_estimator _) (Nat.zero_le _) hl
  · exact hl

/-! ### Frames -/

/-- A frame that an entry discards leaves the estimator, and one that it accepts is announced (R22..R25, R34). -/
theorem State.offerEntry_leanInRange (e : EntryName) (f : Frame) (hp : s.profile.inRange) (he : s.entriesInOrder)
    (hl : s.leanInRange) : (s.offerEntry e f).leanInRange := by
  cases hverdict : (s.topics.get e).judge e (s.binding e) f with
  | malformed =>
    rw [State.offerEntry_of_malformed hverdict]
    exact State.leanInRange_congr (by simp) hl
  | intruder =>
    rw [State.offerEntry_of_intruder hverdict]
    exact State.leanInRange_congr (by simp) hl
  | duplicate =>
    rw [State.offerEntry_of_duplicate hverdict]
    exact State.leanInRange_congr (by simp) hl
  | accepted =>
    rw [State.offerEntry_of_accepted hverdict]
    have hprofile : (s.accepted e f).profile = s.profile := by simp [State.profile, State.accepted]
    exact State.announce_leanInRange e (hprofile ▸ hp)
      (State.entriesInOrder_of_set (s.accepted_topics e f) (Entry.accept_inOrder _ e f s.now) he)
      (State.leanInRange_congr (by simp [State.accepted]) hl)

theorem State.offerEntries_leanInRange (f : Frame) (l : List EntryName) (hp : s.profile.inRange)
    (he : s.entriesInOrder) (hl : s.leanInRange) : (s.offerEntries f l).leanInRange := by
  induction l generalizing s with
  | nil => exact hl
  | cons e rest ih =>
    have hprofile : (s.offerEntry e f).profile = s.profile := by simp [State.profile]
    exact ih (hprofile ▸ hp) (State.offerEntry_entriesInOrder e f he) (State.offerEntry_leanInRange e f hp he hl)

theorem State.handOver_leanInRange (f : Frame) (hp : s.profile.inRange) (he : s.entriesInOrder)
    (hl : s.leanInRange) : (s.handOver f).leanInRange := by
  unfold State.handOver
  split
  · exact State.offerEntries_leanInRange f _ hp he hl
  · split
    · exact State.resetMessage_leanInRange f hl
    · split
      · exact State.leanInRange_congr (State.serve_estimator s _) hl
      · exact hl

theorem State.receive_leanInRange (heard : Heard) (hp : s.profile.inRange) (he : s.entriesInOrder)
    (hl : s.leanInRange) : (s.receive heard).leanInRange := by
  cases heard with
  | good f =>
    exact State.handOver_leanInRange (s := s.driveSlot _) f hp he
      (State.leanInRange_congr (State.driveSlot_estimator s _) hl)
  | badHeader | badLength | badPayload => exact State.leanInRange_congr rfl hl

theorem State.hearFrame_leanInRange (bits : List Level) (hp : s.profile.inRange) (he : s.entriesInOrder)
    (hl : s.leanInRange) : (s.hearFrame bits).leanInRange := by
  unfold State.hearFrame
  split
  · have hprofile : (s.clashTest (parseFrame bits)).profile.inRange := by
      rwa [State.profile, State.clashTest_loader]
    exact State.receive_leanInRange _ hprofile (State.entriesInOrder_congr (State.clashTest_topics s _) he)
      (State.leanInRange_congr (State.clashTest_estimator s _) hl)
  · exact hl

/-! ### The commands -/

/-- The four commands that reach the estimator: power-on, a heard frame, the STALE expiry of an entry, and the expiry of
the base's validity. -/
def reachesEstimator : Instr → Bool
  | .powerOn | .frameHeard _ _ | .staleExpiry _ | .baseValidityExpiry => true
  | _ => false

theorem State.loadComplete_estimator (s : State) : s.loadComplete.estimator = s.estimator := by
  simp [State.loadComplete]

theorem exec_estimator_of_not_reaches {c : Instr} (hc : reachesEstimator c = false) (h : exec c s = .next t) :
    t.estimator = s.estimator := by
  cases c with
  | powerOn | frameHeard | staleExpiry | baseValidityExpiry => cases hc
  | frameStart | arbitrationLoss | collided | ackSlotRead | mediumIdle =>
    cases h
    simp
  | profileLoadComplete =>
    simp only [exec, execProfileLoadComplete] at h
    split at h
    all_goals
      cases h
      simp [State.loadComplete_estimator]
  | muteExpiry | joinWaitExpiry | deadlineExpiry | atRestExpiry | reliefExpiry | regulationStep | brakeStep | gripState
  | echoDeadlineExpiry | assertionEndExpiry | cutPeriodExpiry | ltStatus | windowExpiry =>
    simp only [exec, execMuteExpiry, execJoinWaitExpiry, execDeadlineExpiry, execAtRestExpiry, execReliefExpiry,
      execRegulationStep, execBrakeStep, execGripState, execEchoDeadlineExpiry, execAssertionEndExpiry,
      execCutPeriodExpiry, execLtStatus, execWindowExpiry] at h
    split at h
    all_goals
      cases h
      simp
  | storePageBurstEnd | storePageDone | storePageTimeout | storeReadbackComplete | readBurstEnd =>
    simp only [exec, execStorePageBurstEnd, execStorePageDone, execStorePageTimeout, execStoreReadbackComplete,
      execReadBurstEnd] at h
    repeat' split at h
    all_goals
      cases h
      simp

/-- At power-on the estimator holds no record and no base, and the run is 0 (R73). -/
theorem State.poweredOn_leanInRange (m : Memory) (p : List Instr) (d : Nat) : (State.poweredOn m p d).leanInRange :=
  ⟨(fun _ h => nomatch h), (fun _ h => nomatch h), Nat.zero_le _⟩

theorem exec_baseValidityExpiry_of_held {b : LeanBase} (h : s.estimator.base = some b) :
    exec .baseValidityExpiry s =
      .next ((s.until (b.madeAt + baseValidity)).setEstimator { s.estimator with base := none }) := by
  simp only [exec, execBaseValidityExpiry, h]

theorem exec_leanInRange {c : Instr} (hp : s.profile.inRange) (he : s.entriesInOrder) (hl : s.leanInRange)
    (h : exec c s = .next t) : t.leanInRange := by
  cases hc : reachesEstimator c with
  | false => exact State.leanInRange_congr (exec_estimator_of_not_reaches hc h) hl
  | true =>
    cases c with
    | powerOn =>
      cases h
      exact State.poweredOn_leanInRange _ _ _
    | frameHeard after bits =>
      cases h
      exact State.hearFrame_leanInRange (s := s.elapse after) bits hp he hl
    | staleExpiry e =>
      cases hdue : s.staleDue e with
      | none =>
        simp only [exec, execStaleExpiry, hdue, Host.Outcome.next.injEq] at h
        exact h ▸ hl
      | some d =>
        rw [exec_staleExpiry_of_due hdue, Host.Outcome.next.injEq] at h
        obtain ⟨hlate, -⟩ := State.staleDue_eq_some.mp hdue
        have hstale : (s.goneStale e d).entriesInOrder :=
          State.entriesInOrder_of_set rfl (Entry.stale_inOrder hlate (he e)) he
        exact h ▸ State.staleNotice_leanInRange (s := s.goneStale e d) e hp hstale hl
    | baseValidityExpiry =>
      cases hbase : s.estimator.base with
      | none =>
        simp only [exec, execBaseValidityExpiry, hbase, Host.Outcome.next.injEq] at h
        exact h ▸ hl
      | some b =>
        rw [exec_baseValidityExpiry_of_held hbase, Host.Outcome.next.injEq] at h
        exact State.leanInRange_of_baseDiscarded (h ▸ rfl) (Nat.le_refl _) hl
    | _ => cases hc

/-! ### One step -/

/-- A step is one command, run with some queue left, or a tenth of a millisecond that passes (log entry 1). -/
theorem step_cases (h : step s = .next t) : (∃ c q, exec c (s.setPending q) = .next t) ∨ t = s.elapse 1 := by
  unfold step at h
  split at h
  · next c rest _ => exact .inl ⟨c, rest, h⟩
  · unfold idle at h
    split at h
    · next c _ => exact .inl ⟨c, s.pending, h⟩
    · cases h
      exact .inr rfl

end

/-- Settles O39: one command keeps what the estimator holds in its ranges, and neither the queue nor passing time
reaches it. -/
theorem leanStaysInRange : Obligations.LeanStaysInRange := by
  intro s t hp he hl h
  rcases step_cases h with ⟨c, q, hexec⟩ | rfl
  · exact exec_leanInRange (s := s.setPending q) hp he hl hexec
  · exact hl

end Sys2Proof.Machine
end

section
/-! The kinematic lean of a turn: the lateral ratio and the lean that the tangent table makes of it (R58..R61). -/

namespace Sys2Proof.Machine

/-! ### The lateral ratio -/

/-- The two parts add up to the floor of the exact quotient, whatever the speed and the yaw rate (R59). -/
theorem lateralRatio_eq_floor (speed yaw : Nat) : lateralRatio speed yaw = speed * yaw * 18218 / 10000000 := by
  unfold lateralRatio
  generalize speed * yaw = x
  dsimp only
  omega

/-- Both intermediates of a product of at most 13 500 000 stay within 32 bits (R59). -/
theorem lateralRatio_intermediates {x : Nat} (h : x ≤ 9000 * 1500) :
    x / 10000 * 18218 < 2 ^ 32 ∧ x / 10000 * 18218 % 1000 * 10000 + x % 10000 * 18218 < 200000000 := by
  omega

/-! ### The tangent table -/

/-- The tangent entry of the degree found is at most the ratio (R60). -/
theorem tanQ_degreeBelow_le (n q : Nat) : tanQ (degreeBelow n q) ≤ q := by
  induction n with
  | zero => exact Nat.zero_le q
  | succ n ih =>
    rw [degreeBelow]
    split
    · assumption
    · exact ih

theorem leanOfRatio_of_ge {q : Nat} (h : 2196 ≤ q) : leanOfRatio q = 6500 := if_pos h

/-- The hundredths between two neighbouring table entries are fewer than a whole degree (R60). -/
theorem hundredths_lt {q lo hi : Nat} (hlo : lo ≤ q) (hhi : q < hi) : 100 * (q - lo) / (hi - lo) < 100 := by
  rw [Nat.div_lt_iff_lt_mul (by omega)]
  omega

/-- Below the last table entry the lean is the degree found and the hundredths up to the next (R60). -/
theorem leanOfRatio_of_lt {q : Nat} (h : q < 2196) :
    ∃ d, d ≤ 64 ∧ tanQ d ≤ q ∧ q < tanQ (d + 1) ∧
      leanOfRatio q = 100 * d + 100 * (q - tanQ d) / (tanQ (d + 1) - tanQ d) ∧ leanOfRatio q ≤ 6499 := by
  have hlast : q < tanQ 65 := h
  have hdegree := degreeBelow_le 64 q
  have hbelow := tanQ_degreeBelow_le 64 q
  have habove := lt_tanQ_degreeBelow_succ 64 q hlast
  have hlean : leanOfRatio q = _ := if_neg (Nat.not_le_of_lt hlast)
  have hhundredths := hundredths_lt hbelow habove
  refine ⟨degreeBelow 64 q, hdegree, hbelow, habove, hlean, ?_⟩
  rw [hlean]
  dsimp only
  omega

/-! ### The kinematic candidate -/

theorem kinematicCandidate_of_speed (w : Int) {v : Nat} (h : 300 ≤ v) :
    kinematicCandidate (some w) (some v) = some (withSign (leanOfRatio (lateralRatio v w.natAbs)) w) := if_pos h

/-- Settles O35: the floor holds for every speed and yaw rate; their ranges bound the product, and with it the
intermediates. -/
theorem lateralRatioIsTheExactFloor : Obligations.LateralRatioIsTheExactFloor := by
  refine ⟨fun v w hv hw => ?_, ?_, ?_, ?_⟩
  · exact ⟨lateralRatio_eq_floor v w, lateralRatio_intermediates (Nat.mul_le_mul hv hw)⟩
  · exact lateralRatio_eq_floor 2000 165
  · exact lateralRatio_eq_floor 1837 212
  · intro v
    rw [lateralRatio_eq_floor, Nat.mul_zero]

/-- Settles O36: the last table entry on, the degrees below it, and the sign of the yaw rate. -/
theorem leanMagnitudeFollowsTheTangentTable : Obligations.LeanMagnitudeFollowsTheTangentTable :=
  ⟨fun _ => leanOfRatio_of_ge, fun _ => leanOfRatio_of_lt, fun w _ => kinematicCandidate_of_speed w⟩

end Sys2Proof.Machine
end

section
/-! The selection among the candidates, by their number (R64..R67). -/

namespace Sys2Proof.Machine

/-! ### The median -/

theorem median_comm (a b c : Int) : median a b c = median b a c := by
  rw [median, median, min_comm a b, max_comm a b]

/-- `m` is the middle one of three values: the three in some order are `lo`, `m` and `hi`, which rise (R64). -/
def IsMiddle (m : Int) (values : List Int) : Prop := ∃ lo hi, [lo, m, hi].Perm values ∧ lo ≤ m ∧ m ≤ hi

/-- With `a` and `b` in their order, `c` lies below them, between them or above them. -/
theorem median_isMiddle_of_le {a b : Int} (h : a ≤ b) (c : Int) : IsMiddle (median a b c) [a, b, c] := by
  rw [median, min_eq_left h, max_eq_right h]
  rcases le_total c a with hca | hac
  · rw [min_eq_right (hca.trans h), max_eq_left hca]
    exact ⟨c, b, List.perm_append_comm (l₁ := [c]), hca, h⟩
  · rcases le_total c b with hcb | hbc
    · rw [min_eq_right hcb, max_eq_right hac]
      exact ⟨a, b, (List.Perm.swap b c []).cons a, hac, hcb⟩
    · rw [min_eq_left hbc, max_eq_right h]
      exact ⟨a, c, .refl _, h, hbc⟩

theorem median_isMiddle (a b c : Int) : IsMiddle (median a b c) [a, b, c] := by
  rcases le_total a b with hab | hba
  · exact median_isMiddle_of_le hab c
  · obtain ⟨lo, hi, hperm, hlo, hhi⟩ := median_isMiddle_of_le hba c
    rw [median_comm]
    exact ⟨lo, hi, hperm.trans (.swap a b [c]), hlo, hhi⟩

/-! ### The larger magnitude -/

theorem largerLean_of_le {a b : Int} (h : b.natAbs ≤ a.natAbs) : largerLean a b = a := if_neg (Nat.not_lt_of_le h)

theorem largerLean_of_lt {a b : Int} (h : a.natAbs < b.natAbs) : largerLean a b = b := if_pos h

/-- Settles O37: the median of three; of two the first in the order kinematic, pod, integrated unless the second has the
larger magnitude. -/
theorem selectionByNumberOfCandidates : Obligations.SelectionByNumberOfCandidates := by
  intro k p i assumed
  have hfirst {a b : Int} (h : b.natAbs ≤ a.natAbs) : (largerLean a b, LeanStatus.pair) = (a, .pair) := by
    rw [largerLean_of_le h]
  have hsecond {a b : Int} (h : a.natAbs < b.natAbs) : (largerLean a b, LeanStatus.pair) = (b, .pair) := by
    rw [largerLean_of_lt h]
  exact ⟨median_isMiddle k p i, rfl, hfirst, hsecond, hfirst, hsecond, hfirst, hsecond, rfl, rfl, rfl, rfl⟩

end Sys2Proof.Machine
end

section
/-! An estimate and the one record that it makes: the candidates that the entries give, what the record derives from
them, and what the run, the faults, the base and the budget make of the record (R55..R72). -/

namespace Sys2Proof.Machine

/-! ### The candidates -/

theorem kinematicCandidate_absent {yaw : Option Int} {speed : Option Nat}
    (h : yaw = none ∨ speed = none ∨ ∃ v, speed = some v ∧ v < 300) : kinematicCandidate yaw speed = none := by
  rcases h with rfl | rfl | ⟨v, rfl, hv⟩
  · rfl
  · cases yaw <;> rfl
  · cases yaw with
    | none => rfl
    | some w => exact if_neg (Nat.not_le_of_lt hv)

theorem podCandidate_of_confidence (a : Int) {c : Nat} (h : 50 ≤ c) :
    podCandidate (some a) (some c) = some (10 * a) := by
  rw [mul_comm]
  exact if_pos h

theorem podCandidate_absent {angle : Option Int} {confidence : Option Nat}
    (h : angle = none ∨ confidence = none ∨ ∃ c, confidence = some c ∧ c < 50) :
    podCandidate angle confidence = none := by
  rcases h with rfl | rfl | ⟨c, rfl, hc⟩
  · rfl
  · cases angle <;> rfl
  · cases angle with
    | none => rfl
    | some a => exact if_neg (Nat.not_le_of_lt hc)

/-- The base carried forward by the roll rate, over at least 0.1 ms and at most the validity of a base (R63). -/
theorem integratedCandidate_of_base (p : Int) (b : LeanBase) (now : Nat) :
    integratedCandidate (some p) (some b) now =
      some (max (-6500) (min 6500 (b.lean + (p * (max 1 (min 200 (now - b.madeAt)) : Nat)).tdiv 1000))) := by
  rw [integratedCandidate, clampInt_eq_max_min (by decide), integrationInterval, clampNat_eq_max_min (by decide)]
  rfl

theorem integratedCandidate_absent {roll : Option Int} {base : Option LeanBase} (h : roll = none ∨ base = none)
    (now : Nat) : integratedCandidate roll base now = none := by
  rcases h with rfl | rfl
  · rfl
  · cases roll <;> rfl

/-! ### Selection and spread -/

/-- The selection is LOST only when every candidate is absent (R67). -/
theorem candidates_none_of_lost {k p i : Option Int} {assumed : Nat} (h : (selectLean k p i assumed).2 = .lost) :
    k = none ∧ p = none ∧ i = none :=
  match k, p, i with
  | none, none, none => ⟨rfl, rfl, rfl⟩

/-- `lo` and `hi` are the smallest and the largest of some values. -/
def AreExtremes (lo hi : Int) (values : List Int) : Prop :=
  lo ∈ values ∧ hi ∈ values ∧ ∀ c ∈ values, lo ≤ c ∧ c ≤ hi

theorem areExtremes_singleton (a : Int) : AreExtremes a a [a] := by
  simp [AreExtremes]

/-- One more value moves an extreme only to itself. -/
theorem AreExtremes.concat {lo hi : Int} {values : List Int} (h : AreExtremes lo hi values) (a : Int) :
    AreExtremes (min lo a) (max hi a) (values ++ [a]) := by
  obtain ⟨hlo, hhi, hall⟩ := h
  refine ⟨?_, ?_, fun c hc => ?_⟩
  · rcases min_choice lo a with heq | heq <;> simp [heq, hlo]
  · rcases max_choice hi a with heq | heq <;> simp [heq, hhi]
  · rcases List.mem_append.mp hc with hold | hnew
    · obtain ⟨hge, hle⟩ := hall c hold
      exact ⟨(min_le_left _ _).trans hge, hle.trans (le_max_left _ _)⟩
    · obtain rfl := List.mem_singleton.mp hnew
      exact ⟨min_le_right _ _, le_max_right _ _⟩

theorem areExtremes_pair (a b : Int) : AreExtremes (min a b) (max a b) [a, b] := (areExtremes_singleton a).concat b

theorem areExtremes_triple (a b c : Int) : AreExtremes (min (min a b) c) (max (max a b) c) [a, b, c] :=
  (areExtremes_pair a b).concat c

/-- The spread is the difference of the extremes of the candidates on hand, and absent with fewer than two (R69). -/
theorem spreadOf_spec (k p i : Option Int) :
    let found := [k, p, i].filterMap id
    (found.length < 2 → spreadOf k p i = none) ∧
      (2 ≤ found.length → ∃ lo hi, AreExtremes lo hi found ∧ spreadOf k p i = some (hi - lo)) :=
  match k, p, i with
  | some k, some p, some i =>
    ⟨fun h => absurd h (by simp), fun _ => ⟨_, _, areExtremes_triple k p i, rfl⟩⟩
  | some k, some p, none => ⟨fun h => absurd h (by simp), fun _ => ⟨_, _, areExtremes_pair k p, rfl⟩⟩
  | some k, none, some i => ⟨fun h => absurd h (by simp), fun _ => ⟨_, _, areExtremes_pair k i, rfl⟩⟩
  | none, some p, some i => ⟨fun h => absurd h (by simp), fun _ => ⟨_, _, areExtremes_pair p i, rfl⟩⟩
  | some _, none, none | none, some _, none | none, none, some _ | none, none, none =>
    ⟨fun _ => rfl, fun h => absurd h (by simp)⟩

theorem tenthRounded_eq (x : Int) : tenthRounded x = if x < 0 then -((5 - x) / 10) else (x + 5) / 10 := by
  rw [tenthRounded, neg_add_eq_sub]

/-! ### The record -/

section

variable (s : State)

/-- The kinematic candidate is formed at A alone (R55, R58). -/
theorem State.leanRecord_kinematic_of_a :
    (s.leanRecord .a).kinematic = kinematicCandidate s.topics.yawRate s.topics.frontSpeed := rfl

theorem State.leanRecord_kinematic_absent {cause : LeanCause}
    (h : cause ≠ .a ∨ s.topics.yawRate = none ∨ s.topics.frontSpeed = none ∨
      ∃ v, s.topics.frontSpeed = some v ∧ v < 300) : (s.leanRecord cause).kinematic = none := by
  cases cause with
  | a => exact kinematicCandidate_absent (h.resolve_left (not_not.mpr rfl))
  | b | c => rfl

/-- The pod candidate is formed at A and at B (R55, R62). -/
theorem State.leanRecord_pod {cause : LeanCause} (h : cause ≠ .c) :
    (s.leanRecord cause).pod = podCandidate s.topics.podAngle s.topics.podConfidence := if_neg h

theorem State.leanRecord_pod_absent {cause : LeanCause}
    (h : cause = .c ∨ s.topics.podAngle = none ∨ s.topics.podConfidence = none ∨
      ∃ c, s.topics.podConfidence = some c ∧ c < 50) : (s.leanRecord cause).pod = none := by
  by_cases hc : cause = .c
  · exact if_pos hc
  · rw [s.leanRecord_pod hc]
    exact podCandidate_absent (h.resolve_left hc)

/-- The integrated candidate is formed at A alone (R55, R63). -/
theorem State.leanRecord_integrated_of_a :
    (s.leanRecord .a).integrated = integratedCandidate s.topics.rollRate s.estimator.base s.now := rfl

theorem State.leanRecord_integrated_absent {cause : LeanCause}
    (h : cause ≠ .a ∨ s.topics.rollRate = none ∨ s.estimator.base = none) :
    (s.leanRecord cause).integrated = none := by
  cases cause with
  | a => exact integratedCandidate_absent (h.resolve_left (not_not.mpr rfl)) s.now
  | b | c => rfl

theorem State.leanRecord_selection (cause : LeanCause) :
    ((s.leanRecord cause).selected, (s.leanRecord cause).status) =
      selectLean (s.leanRecord cause).kinematic (s.leanRecord cause).pod (s.leanRecord cause).integrated
        s.profile.assumedLean := rfl

theorem State.leanRecord_spread (cause : LeanCause) :
    (s.leanRecord cause).spread =
      spreadOf (s.leanRecord cause).kinematic (s.leanRecord cause).pod (s.leanRecord cause).integrated := rfl

/-- A LOST record has no candidate: it holds the assumed lean and no spread (R67, R69). -/
theorem State.leanRecord_of_lost {cause : LeanCause} (h : (s.leanRecord cause).status = .lost) :
    (s.leanRecord cause).selected = s.profile.assumedLean ∧ (s.leanRecord cause).spread = none := by
  have hselection := s.leanRecord_selection cause
  obtain ⟨hk, hp, hi⟩ := candidates_none_of_lost ((congrArg Prod.snd hselection).symm.trans h)
  rw [hk, hp, hi] at hselection
  rw [s.leanRecord_spread, hk, hp, hi]
  exact ⟨congrArg Prod.fst hselection, rfl⟩

/-! ### Run, faults and base -/

theorem State.estimate_leanDisagree (cause : LeanCause) :
    (s.estimate cause).conditionActive .leanDisagree =
      decide (20 ≤ (s.estimate cause).estimator.disagreementRun) := by
  rw [State.estimate_estimator, State.conditionActive, State.estimate, State.drawBudget_monitor]
  exact ((State.setCondition_conditionActive _ _ _ .leanDisagree).trans (if_neg (by decide))).trans
    (State.setCondition_active _ _ _)

theorem baseAfter_of_lost {r : LeanRecord} (h : r.status = .lost) (now : Nat) : baseAfter r now = none := if_pos h

theorem baseAfter_of_found {r : LeanRecord} (h : r.status ≠ .lost) (now : Nat) :
    baseAfter r now = some ⟨r.selected, now⟩ := if_neg h

/-! ### The budget -/

/-- The state in which the new record is announced to the Grip Budget Unit: stages 1 to 5 of the estimate (R55). -/
def State.withLeanRecord (cause : LeanCause) : State :=
  let r := s.leanRecord cause
  ((s.setEstimator (s.estimator.keep r)).refreshLeanConditions r).refreshBase r

theorem State.estimate_eq (cause : LeanCause) : s.estimate cause = (s.withLeanRecord cause).drawBudget := rfl

theorem State.withLeanRecord_latest (cause : LeanCause) :
    (s.withLeanRecord cause).estimator.latest = some (s.leanRecord cause) := by
  simp [State.withLeanRecord, State.refreshBase, Estimator.keep]

theorem State.withLeanRecord_selector (cause : LeanCause) : (s.withLeanRecord cause).selector = s.selector := by
  simp [State.withLeanRecord, State.refreshBase]

theorem State.withLeanRecord_grip (cause : LeanCause) : (s.withLeanRecord cause).grip = s.grip := by
  simp [State.withLeanRecord, State.refreshBase]

/-- Once a load record exists the new lean record gives a budget (R70, R77). -/
theorem State.estimate_grip_of_load (cause : LeanCause) {load : LoadRecord} (h : s.selector.load = some load) :
    (s.estimate cause).grip =
      s.grip.keep ((s.withLeanRecord cause).budgetRecord (s.leanRecord cause) load) := by
  rw [s.estimate_eq, State.drawBudget_of_records (s.withLeanRecord_latest cause)
    ((congrArg Selector.load (s.withLeanRecord_selector cause)).trans h), s.withLeanRecord_grip]
  rfl

theorem State.estimate_grip_of_no_load (cause : LeanCause) (h : s.selector.load = none) :
    (s.estimate cause).grip = s.grip := by
  rw [s.estimate_eq, State.drawBudget_of_no_load ((congrArg Selector.load (s.withLeanRecord_selector cause)).trans h),
    s.withLeanRecord_grip]

theorem State.estimate_onlyChanges (cause : LeanCause) :
    s.onlyChanges (s.estimate cause) [.estimator, .grip, .link, .publisher, .monitor] := by
  intro p hp
  cases p <;> simp_all [State.agreesOn]

end

/-- Settles O38: the record is the one that the entries make at its event, the estimator and its two conditions follow
from it, and the budget is drawn from it. -/
theorem estimatesMakeOneRecord : Obligations.EstimatesMakeOneRecord := by
  refine ⟨fun s cause => ?_, fun s b hb => exec_baseValidityExpiry_of_held hb⟩
  dsimp only
  have hestimator := s.estimate_estimator cause
  obtain ⟨hfew, hmany⟩ := spreadOf_spec (s.leanRecord cause).kinematic (s.leanRecord cause).pod
    (s.leanRecord cause).integrated
  refine ⟨s.leanRecord cause, congrArg Estimator.latest hestimator, rfl, rfl, ?_, ?_, s.leanRecord_of_lost, ?_,
    s.leanRecord_kinematic_absent, ?_, s.leanRecord_pod_absent, ?_, s.leanRecord_integrated_absent,
    s.leanRecord_selection cause, ⟨hfew, fun hlength => ?_⟩, rfl, tenthRounded_eq _,
    congrArg Estimator.disagreementRun hestimator, ?_, ?_, fun hlost => ?_, fun hfound => ?_, fun load hload => ?_,
    s.estimate_grip_of_no_load cause, s.estimate_onlyChanges cause⟩
  · rintro rfl
    rfl
  · rintro rfl
    exact ⟨rfl, rfl⟩
  · rintro rfl w v hw hv -
    rw [s.leanRecord_kinematic_of_a, hw, hv]
  · intro hcause a c ha hc hconfident
    rw [s.leanRecord_pod hcause, ha, hc, podCandidate_of_confidence a hconfident]
  · rintro rfl p b hp hb
    rw [s.leanRecord_integrated_of_a, hp, hb, integratedCandidate_of_base]
  · obtain ⟨lo, hi, ⟨hlo, hhi, hall⟩, hspread⟩ := hmany hlength
    exact ⟨lo, hlo, hi, hhi, hall, hspread⟩
  · rw [s.estimate_leanLost, decide_eq_true_iff]
  · rw [s.estimate_leanDisagree, decide_eq_true_iff]
  · rw [hestimator, baseAfter_of_lost hlost]
  · rw [hestimator, baseAfter_of_found hfound]
  · rw [s.estimate_grip_of_load cause hload]
    exact ⟨rfl, _, rfl, rfl, rfl, rfl⟩

end Sys2Proof.Machine
end

section
/-! The grip correction table after a breach notice and after a relief, band by band (R93, R94, R96). -/

namespace Sys2Proof.Machine

/-! ### Frames -/

theorem State.setGrip_onlyChanges (s : State) (x : GripUnit) : s.onlyChanges (s.setGrip x) [.grip] := by
  intro p hp
  cases p
  case grip => exact absurd List.mem_cons_self hp
  all_goals rfl

/-! ### The entries of the table -/

theorem BandCorrection.relieved_of_marked {e : BandCorrection} (h : e.mark = true) : e.relieved = ⟨e.corr, false⟩ :=
  if_pos h

theorem BandCorrection.relieved_of_lowered {e : BandCorrection} (hmark : e.mark = false) (h : e.corr < 0) :
    e.relieved = ⟨min 0 (e.corr + 4), false⟩ := by
  rw [BandCorrection.relieved, if_neg (by simp [hmark]), if_pos h]

theorem BandCorrection.relieved_of_unlowered {e : BandCorrection} (hmark : e.mark = false) (h : 0 ≤ e.corr) :
    e.relieved = ⟨e.corr, false⟩ := by
  rw [BandCorrection.relieved, if_neg (by simp [hmark]), if_neg (by omega)]

/-! ### A breach notice -/

section

variable (g : GripUnit) {band : Nat} (sender : NoticeSender)

theorem GripUnit.breach_table_length : (g.breach band sender).table.length = g.table.length := List.length_set

theorem GripUnit.breach_table_same (h : band < g.table.length) :
    (g.breach band sender).table[band]? = some (g.entry band).breached := List.getElem?_set_self h

theorem GripUnit.breach_table_other {b : Nat} (h : b ≠ band) : (g.breach band sender).table[b]? = g.table[b]? :=
  List.getElem?_set_ne h.symm

theorem GripUnit.breach_floorLimited (h : (g.entry band).corr = -512) :
    (g.breach band sender).floorLimited = bump g.floorLimited := if_pos h

theorem GripUnit.breach_driveNotices (h : sender = .drive) :
    (g.breach band sender).driveNotices = bump g.driveNotices := if_pos h

theorem GripUnit.breach_brakeNotices (h : sender = .brake) :
    (g.breach band sender).brakeNotices = bump g.brakeNotices := if_pos h

end

/-! ### A relief -/

theorem GripUnit.relieve_table_get {g : GripUnit} {b : Nat} {e : BandCorrection} (h : g.table[b]? = some e) :
    g.relieve.table[b]? = some e.relieved := by
  rw [GripUnit.relieve, List.getElem?_map, h, Option.map_some]

/-- The state after the relief that falls due at `d` (R96). -/
def State.relievedAt (s : State) (d : Nat) : State :=
  (s.until d).setGrip { s.grip.relieve with reliefEnds := some ((s.until d).now + reliefPeriod) }

theorem exec_reliefExpiry_of_running {s : State} {d : Nat} (h : s.grip.reliefEnds = some d) :
    exec .reliefExpiry s = .next (s.relievedAt d) := by
  simp only [exec, execReliefExpiry, h]
  rfl

theorem State.relievedAt_onlyChanges (s : State) (d : Nat) : s.onlyChanges (s.relievedAt d) [.now, .grip] := by
  intro p hp
  cases p <;> simp_all [State.relievedAt, State.agreesOn]

/-- Settles O40: the notice sets the entry of its band, the relief maps every entry, and neither draws a budget. -/
theorem correctionsFallAndRise : Obligations.CorrectionsFallAndRise := by
  refine ⟨fun s band sender hlength hband => ?_, fun s d hd => ?_⟩
  · have hlt : band < s.grip.table.length := hlength ▸ hband
    exact ⟨(s.grip.breach_table_length sender).trans hlength, s.grip.breach_table_same sender hlt,
      fun _ => s.grip.breach_table_other sender, rfl, rfl, rfl, s.grip.breach_floorLimited sender,
      s.grip.breach_driveNotices sender, s.grip.breach_brakeNotices sender, s.setGrip_onlyChanges _⟩
  · refine ⟨s.relievedAt d, exec_reliefExpiry_of_running hd, rfl, rfl, List.length_map _, fun b e hb => ?_, rfl, rfl,
      s.relievedAt_onlyChanges d⟩
    have hrelieved : (s.relievedAt d).grip.table[b]? = some e.relieved := GripUnit.relieve_table_get hb
    rw [hrelieved]
    exact ⟨fun hmark => congrArg some (e.relieved_of_marked hmark),
      fun hmark hneg => congrArg some (e.relieved_of_lowered hmark hneg),
      fun hmark hpos => congrArg some (e.relieved_of_unlowered hmark hpos)⟩

end Sys2Proof.Machine
end

section
/-! The grip corrections stay in their range: a breach notice floors, a relief caps, a chassis reset and power-on clear
the table, and nothing else reaches it (R93, R94, R96, R99, R100). -/

namespace Sys2Proof.Machine

/-! ### The entries -/

/-- A correction lies within -512..0 (R93). -/
def BandCorrection.inRange (e : BandCorrection) : Prop := -512 ≤ e.corr ∧ e.corr ≤ 0

theorem GripUnit.tableInRange_iff {g : GripUnit} :
    g.tableInRange ↔ g.table.length = 14 ∧ ∀ e ∈ g.table, e.inRange := Iff.rfl

/-- A breach lowers a correction, and not below -512 (R94). -/
theorem BandCorrection.breached_inRange {e : BandCorrection} (h : e.inRange) : e.breached.inRange := by
  unfold BandCorrection.inRange BandCorrection.breached at *
  dsimp only
  omega

/-- A relief raises a correction below 0, and not above 0 (R96). -/
theorem BandCorrection.relieved_inRange {e : BandCorrection} (h : e.inRange) : e.relieved.inRange := by
  unfold BandCorrection.inRange BandCorrection.relieved at *
  repeat' split
  all_goals
    dsimp only
    omega

/-! ### The table -/

theorem GripUnit.tableInRange_congr {g g' : GripUnit} (htable : g'.table = g.table) (h : g.tableInRange) :
    g'.tableInRange := by
  rwa [GripUnit.tableInRange, htable]

theorem GripUnit.tableInRange_of_cleared {g : GripUnit} (h : g.table = clearedTable) : g.tableInRange := by
  rw [GripUnit.tableInRange, h]
  decide

/-- Beyond the table a band reads as 0. -/
theorem GripUnit.entry_inRange {g : GripUnit} (h : g.tableInRange) (band : Nat) : (g.entry band).inRange := by
  obtain ⟨-, hrange⟩ := GripUnit.tableInRange_iff.mp h
  rcases Nat.lt_or_ge band g.table.length with hlt | hge
  · have hentry : g.entry band = g.table[band] := List.getD_eq_getElem _ _ hlt
    exact hentry ▸ hrange _ (List.getElem_mem hlt)
  · have hentry : g.entry band = ⟨0, false⟩ := List.getD_eq_default _ _ hge
    rw [hentry]
    unfold BandCorrection.inRange
    decide

theorem GripUnit.breach_tableInRange {g : GripUnit} (band : Nat) (sender : NoticeSender) (h : g.tableInRange) :
    (g.breach band sender).tableInRange := by
  obtain ⟨hlength, hrange⟩ := GripUnit.tableInRange_iff.mp h
  refine GripUnit.tableInRange_iff.mpr ⟨(g.breach_table_length sender).trans hlength, fun e he => ?_⟩
  obtain hold | rfl := List.mem_or_eq_of_mem_set he
  · exact hrange e hold
  · exact BandCorrection.breached_inRange (GripUnit.entry_inRange h band)

theorem GripUnit.relieve_tableInRange {g : GripUnit} (h : g.tableInRange) : g.relieve.tableInRange := by
  obtain ⟨hlength, hrange⟩ := GripUnit.tableInRange_iff.mp h
  refine GripUnit.tableInRange_iff.mpr ⟨(List.length_map _).trans hlength, fun e he => ?_⟩
  obtain ⟨old, hold, rfl⟩ := List.mem_map.mp he
  exact BandCorrection.relieved_inRange (hrange old hold)

section

variable (s : State)

/-! ### What leaves the table -/

theorem State.drawBudget_table : s.drawBudget.grip.table = s.grip.table := by
  unfold State.drawBudget
  split <;> rfl

theorem State.recomputeLoad_table : s.recomputeLoad.grip.table = s.grip.table := s.renewLoad.drawBudget_table

theorem State.recomputeIfOpen_table : s.recomputeIfOpen.grip.table = s.grip.table := by
  unfold State.recomputeIfOpen
  split
  · exact s.recomputeLoad_table
  · rfl

/-- An estimate draws a budget at most (R55, R77). -/
theorem State.estimate_table (cause : LeanCause) : (s.estimate cause).grip.table = s.grip.table := by
  rw [s.estimate_eq, State.drawBudget_table, s.withLeanRecord_grip]

theorem State.podArrival_table : s.podArrival.grip.table = s.grip.table := by
  unfold State.podArrival
  split
  · rfl
  · exact s.estimate_table .b

theorem State.staleNotice_table (e : EntryName) : (s.staleNotice e).grip.table = s.grip.table := by
  cases e with
  | inertialRates => exact s.estimate_table .c
  | suspensionState => exact s.recomputeIfOpen_table
  | dashSelect => exact s.recomputeIfOpen_table
  | wheelSpeeds | inertialAccel | inertialLean | engineState | brakeState => simp [State.staleNotice]

theorem State.atRestExpired_table : s.atRestExpired.grip.table = s.grip.table := by
  unfold State.atRestExpired
  dsimp only
  split
  · rfl
  · exact State.recomputeLoad_table _

theorem State.startTimers_table : s.startTimers.grip.table = s.grip.table := rfl

theorem State.loadComplete_table : s.loadComplete.grip.table = s.grip.table := by
  simp [State.loadComplete, State.startTimers_table, State.recomputeLoad_table]

variable {s} {t : State}

/-! ### Notices -/

theorem State.driveNotice_tableInRange (r : StepResult) (h : s.grip.tableInRange) :
    (s.driveNotice r).grip.tableInRange := by
  unfold State.driveNotice
  split
  · exact GripUnit.breach_tableInRange _ _ h
  · exact h

theorem State.onsetNotice_tableInRange (abs : Option Bool) (memory : Bool) (h : s.grip.tableInRange) :
    (s.onsetNotice abs memory).grip.tableInRange := by
  unfold State.onsetNotice
  repeat' split
  · exact GripUnit.breach_tableInRange _ _ h
  · exact h
  · exact h

/-- A regulation step sends a breach notice at most (R112). -/
theorem State.regulationStep_tableInRange (h : s.grip.tableInRange) : s.regulationStep.grip.tableInRange := by
  simp only [State.regulationStep, State.tellStep_grip, State.handover_grip, State.publishLimit_grip,
    State.setDrive_grip]
  exact State.driveNotice_tableInRange _ h

/-- A BRAKE_STATE arrival sends a breach notice per wheel at most (R141). -/
theorem State.absArrival_tableInRange (h : s.grip.tableInRange) : s.absArrival.grip.tableInRange :=
  State.onsetNotice_tableInRange _ _ (State.onsetNotice_tableInRange _ _ h)

theorem State.announce_tableInRange (e : EntryName) (h : s.grip.tableInRange) :
    (s.announce e).grip.tableInRange := by
  cases e with
  | brakeState => exact State.absArrival_tableInRange (s := s.echoArrival .brake) (by rwa [State.echoArrival_grip])
  | inertialRates => exact GripUnit.tableInRange_congr (s.estimate_table .a) h
  | inertialLean => exact GripUnit.tableInRange_congr s.podArrival_table h
  | suspensionState => exact GripUnit.tableInRange_congr s.recomputeIfOpen_table h
  | dashSelect =>
    exact GripUnit.tableInRange_congr (by simp [State.announce, State.dashArrival, State.recomputeIfOpen_table]) h
  | wheelSpeeds | inertialAccel | engineState => exact GripUnit.tableInRange_congr (by simp [State.announce]) h

/-- A chassis reset clears the table, and an ignored one leaves it (R37, R100). -/
theorem State.resetMessage_tableInRange (f : Frame) (h : s.grip.tableInRange) :
    (s.resetMessage f).grip.tableInRange := by
  unfold State.resetMessage
  split
  · exact GripUnit.tableInRange_of_cleared (congrArg GripUnit.table (State.chassisReset_grip _))
  · exact h

/-! ### Frames -/

/-- A frame that an entry discards leaves the table, and one that it accepts is announced (R22..R25, R34). -/
theorem State.offerEntry_tableInRange (e : EntryName) (f : Frame) (h : s.grip.tableInRange) :
    (s.offerEntry e f).grip.tableInRange := by
  cases hverdict : (s.topics.get e).judge e (s.binding e) f with
  | malformed =>
    rw [State.offerEntry_of_malformed hverdict]
    exact GripUnit.tableInRange_congr (by simp) h
  | intruder =>
    rw [State.offerEntry_of_intruder hverdict]
    exact GripUnit.tableInRange_congr (by simp) h
  | duplicate =>
    rw [State.offerEntry_of_duplicate hverdict]
    exact GripUnit.tableInRange_congr (by simp) h
  | accepted =>
    rw [State.offerEntry_of_accepted hverdict]
    exact State.announce_tableInRange e (GripUnit.tableInRange_congr (by simp [State.accepted]) h)

theorem State.offerEntries_tableInRange (f : Frame) (l : List EntryName) (h : s.grip.tableInRange) :
    (s.offerEntries f l).grip.tableInRange := by
  induction l generalizing s with
  | nil => exact h
  | cons e rest ih => exact ih (State.offerEntry_tableInRange e f h)

theorem State.handOver_tableInRange (f : Frame) (h : s.grip.tableInRange) : (s.handOver f).grip.tableInRange := by
  unfold State.handOver
  split
  · exact State.offerEntries_tableInRange f _ h
  · split
    · exact State.resetMessage_tableInRange f h
    · split
      · exact (State.serve_grip s _).symm ▸ h
      · exact h

theorem State.receive_tableInRange (heard : Heard) (h : s.grip.tableInRange) :
    (s.receive heard).grip.tableInRange := by
  cases heard with
  | good f => exact State.handOver_tableInRange (s := s.driveSlot _) f ((State.driveSlot_grip s _).symm ▸ h)
  | badHeader | badLength | badPayload => exact h

theorem State.hearFrame_tableInRange (bits : List Level) (h : s.grip.tableInRange) :
    (s.hearFrame bits).grip.tableInRange := by
  unfold State.hearFrame
  split
  · exact State.receive_tableInRange _ ((State.clashTest_grip s _).symm ▸ h)
  · exact h

/-! ### The commands -/

/-- The four commands that reach the correction table: power-on, a heard frame, the relief and a regulation step. -/
def reachesTable : Instr → Bool
  | .powerOn | .frameHeard _ _ | .reliefExpiry | .regulationStep => true
  | _ => false

theorem exec_table_of_not_reaches {c : Instr} (hc : reachesTable c = false) (h : exec c s = .next t) :
    t.grip.table = s.grip.table := by
  cases c with
  | powerOn | frameHeard | reliefExpiry | regulationStep => cases hc
  | frameStart | arbitrationLoss | collided | ackSlotRead | mediumIdle =>
    cases h
    simp
  | profileLoadComplete =>
    simp only [exec, execProfileLoadComplete] at h
    split at h
    all_goals
      cases h
      simp [State.loadComplete_table]
  | muteExpiry | joinWaitExpiry | deadlineExpiry | staleExpiry | atRestExpiry | baseValidityExpiry | brakeStep
  | gripState | echoDeadlineExpiry | assertionEndExpiry | cutPeriodExpiry | ltStatus | windowExpiry =>
    simp only [exec, execMuteExpiry, execJoinWaitExpiry, execDeadlineExpiry, execStaleExpiry, execAtRestExpiry,
      execBaseValidityExpiry, execBrakeStep, execGripState, execEchoDeadlineExpiry, execAssertionEndExpiry,
      execCutPeriodExpiry, execLtStatus, execWindowExpiry] at h
    split at h
    all_goals
      cases h
      simp [State.staleNotice_table, State.atRestExpired_table]
  | storePageBurstEnd | storePageDone | storePageTimeout | storeReadbackComplete | readBurstEnd =>
    simp only [exec, execStorePageBurstEnd, execStorePageDone, execStorePageTimeout, execStoreReadbackComplete,
      execReadBurstEnd] at h
    repeat' split at h
    all_goals
      cases h
      simp

theorem exec_tableInRange {c : Instr} (hs : s.grip.tableInRange) (h : exec c s = .next t) : t.grip.tableInRange := by
  cases hc : reachesTable c with
  | false => exact GripUnit.tableInRange_congr (exec_table_of_not_reaches hc h) hs
  | true =>
    cases c with
    | powerOn =>
      cases h
      exact GripUnit.tableInRange_of_cleared rfl
    | frameHeard after bits =>
      cases h
      exact State.hearFrame_tableInRange (s := s.elapse after) bits hs
    | reliefExpiry =>
      cases hdue : s.grip.reliefEnds with
      | none =>
        simp only [exec, execReliefExpiry, hdue, Host.Outcome.next.injEq] at h
        exact h ▸ hs
      | some d =>
        rw [exec_reliefExpiry_of_running hdue, Host.Outcome.next.injEq] at h
        subst h
        exact GripUnit.relieve_tableInRange hs
    | regulationStep =>
      simp only [exec, execRegulationStep] at h
      split at h
      · cases h
        exact State.regulationStep_tableInRange hs
      · cases h
        exact hs
    | _ => cases hc

end

/-- Settles O41: every command keeps the table in its range, and neither the queue nor passing time reaches it. -/
theorem correctionsStayInRange : Obligations.CorrectionsStayInRange := fun _ _ =>
  step_keeps (P := fun s => s.grip.tableInRange) (fun _ _ hs => hs) (fun _ hs => hs) (fun _ _ _ => exec_tableInRange)

end Sys2Proof.Machine
end

section
/-! The seven stages of a budget (R84..R91): what each stage gives in the manual's terms, and the record that they
make. -/

namespace Sys2Proof.Machine

/-! ### The square root -/

theorem lt_isqrtFrom_succ_mul_self (k n r : Nat) (h : n < (r + 2 ^ k) * (r + 2 ^ k)) :
    n < (isqrtFrom k n r + 1) * (isqrtFrom k n r + 1) := by
  induction k generalizing r with
  | zero => exact h
  | succ k ih =>
    apply ih
    split
    · rwa [Nat.pow_succ, Nat.mul_two, ← Nat.add_assoc] at h
    · next hgt => exact Nat.lt_of_not_le hgt

/-- Sixteen steps find the integer square root of a number below 2^32 (R86). -/
theorem isqrt_eq_sqrt {n : Nat} (h : n < 2 ^ 32) : isqrt n = Nat.sqrt n :=
  Nat.eq_sqrt.mpr ⟨isqrt_mul_self_le n, lt_isqrtFrom_succ_mul_self 16 n 0 h⟩

/-! ### Stages 1 to 3 -/

theorem effectiveGrip_eq (muBase : Nat) (corr : Int) (gripScale : Nat) (offset : Int) :
    (effectiveGrip muBase corr gripScale offset : Int) =
      max 205 (min 1536 ((muBase + corr) * (gripScale + 32 * offset) / 1024)) := by
  rw [effectiveGrip, clampInt_eq_max_min (by decide)]
  exact Int.toNat_of_nonneg (by omega)

theorem allowanceOf_of_saturated {mu u : Nat} (h : mu ≤ u) : allowanceOf mu u = 0 := if_pos h

theorem allowanceOf_of_unsaturated {mu u : Nat} (hmu : mu ≤ 1536) (h : u < mu) :
    allowanceOf mu u = Nat.sqrt (mu * mu - u * u) := by
  have hsquare : mu * mu ≤ 1536 * 1536 := Nat.mul_le_mul hmu hmu
  rw [allowanceOf, if_neg (Nat.not_le_of_lt h), isqrt_eq_sqrt (by omega)]

/-- Upright, the whole of the effective grip is left (R86). -/
theorem allowanceOf_upright {mu : Nat} (hmu : mu ≤ 1536) : allowanceOf mu 0 = mu := by
  rcases Nat.eq_zero_or_pos mu with rfl | hpos
  · rfl
  · rw [allowanceOf_of_unsaturated hmu hpos]
    exact Nat.sqrt_eq mu

/-! ### Stages 5 to 7 -/

theorem transferOf_of_braking (mass height wheelbase rear : Nat) {a : Int} (h : a < 0) :
    transferOf mass height wheelbase rear (some a) = min (mass * a.natAbs * height / (100 * wheelbase)) rear := if_pos h

theorem transferOf_of_not_braking (mass height wheelbase rear : Nat) {a : Int} (h : 0 ≤ a) :
    transferOf mass height wheelbase rear (some a) = 0 := if_neg (Int.not_lt.mpr h)

theorem brakeLimitOf_eq {floor : Nat} (h : floor ≤ 2000) (allowance load gain : Nat) :
    brakeLimitOf allowance load gain floor = max floor (min 2000 (allowance * load / 1024 * 10 / gain)) :=
  clampNat_eq_max_min (hi := brakeMaximum) h _

/-! ### The record -/

/-- The mode profile in force is one of the running profile's four (R48, R49). -/
theorem State.modeProfile_inRange {s : State} (h : s.profile.inRange) : s.modeProfile.inRange := by
  obtain ⟨-, -, -, -, -, -, -, -, -, -, -, -, -, -, -, -, hmodes, -⟩ := h
  exact hmodes s.selector.mode

section

variable (s : State) (lean : LeanRecord) (load : LoadRecord)

theorem State.budgetRecord_transfer : (s.budgetRecord lean load).transfer =
    transferOf load.mass load.height s.profile.wheelbase (s.budgetRecord lean load).rearLoad s.topics.longAccel := rfl

/-- The rear wheel keeps its floor where it is light, and else its computed limit (R90, R91). -/
theorem State.budgetRecord_rearLimit : (s.budgetRecord lean load).rearLimit =
    if (s.budgetRecord lean load).rearLight = true then s.modeProfile.rearFloor
    else brakeLimitOf (s.budgetRecord lean load).allowance (s.budgetRecord lean load).rearBraking s.profile.rearGain
      s.modeProfile.rearFloor := rfl

end

/-- Settles O42: the tables and the square root first, then the record stage by stage. -/
theorem budgetFollowsItsSevenStages : Obligations.BudgetFollowsItsSevenStages := by
  refine ⟨fun l hl => ⟨rfl, lateralUseOf_le hl⟩, by decide, by decide, fun mu u hmu => ?_,
    fun s lean load hp hlean hload => ?_⟩
  · refine ⟨allowanceOf_of_saturated, fun hu => ?_, ?_, allowanceOf_le mu u⟩
    · rw [allowanceOf_of_unsaturated hmu hu]
      exact ⟨Nat.sqrt_le _, Nat.lt_succ_sqrt _⟩
    · rintro rfl
      exact allowanceOf_upright hmu
  · obtain ⟨-, -, -, -, -, -, -, -, -, -, -, hfront, hrear, -, hfloor⟩ := State.modeProfile_inRange hp
    rw [State.drawBudget_of_records hlean hload]
    refine ⟨s.budgetRecord lean load, rfl, rfl, rfl, rfl, rfl, effectiveGrip_eq _ _ _ _, rfl, rfl, decide_eq_true_iff,
      rfl, rfl, rfl, clampNat_eq_max_min hfloor _, rfl, Option.isNone_iff_eq_none, fun a ha hneg => ?_,
      fun a ha hpos => ?_, fun hnone => ?_, rfl, rfl, brakeLimitOf_eq hfront _ _ _, decide_eq_true_iff,
      fun hlight => ?_, fun hheavy => ?_, rfl, s.setGrip_onlyChanges _⟩
    · rw [s.budgetRecord_transfer, ha, transferOf_of_braking _ _ _ _ hneg]
    · rw [s.budgetRecord_transfer, ha, transferOf_of_not_braking _ _ _ _ hpos]
    · rw [s.budgetRecord_transfer, hnone]
      rfl
    · rw [s.budgetRecord_rearLimit, if_pos hlight]
    · rw [s.budgetRecord_rearLimit, if_neg (by simp [hheavy]), brakeLimitOf_eq hrear]

end Sys2Proof.Machine
end

section
/-! The regulation step: the stages that can settle it, the state that each leaves, and what the step hands on, said
once (R103, R105..R117, R119..R121). -/

namespace Sys2Proof.Machine

/-! ### The output path -/

section

variable {link : LinkState} {status : ConsumerStatus} {permitted : Bool}

theorem choosePath_of_bus (h : link = .joined ∧ status ≠ .silent) :
    choosePath link status permitted = .bus := if_pos h

theorem choosePath_of_cut (h : ¬(link = .joined ∧ status ≠ .silent)) :
    choosePath link status true = .cutLine := if_neg h

theorem choosePath_of_closed (h : ¬(link = .joined ∧ status ≠ .silent)) :
    choosePath link status false = .none := if_neg h

end

theorem ModeProfile.cutPermitted_eq_true {m : ModeProfile} (h : m.cutPermission ≠ 0) : m.cutPermitted = true :=
  bne_iff_ne.mpr h

theorem ModeProfile.cutPermitted_eq_false {m : ModeProfile} (h : m.cutPermission = 0) : m.cutPermitted = false := by
  simp [ModeProfile.cutPermitted, h]

/-- The path that stage 2 chooses (R106). -/
def State.outputPath (s : State) : DrivePath :=
  choosePath s.link.state s.publisher.engine.status s.modeProfile.cutPermitted

section

variable {s : State}

theorem State.outputPath_of_bus (h : s.link.state = .joined ∧ s.publisher.engine.status ≠ .silent) :
    s.outputPath = .bus := choosePath_of_bus h

theorem State.outputPath_of_cut (h : ¬(s.link.state = .joined ∧ s.publisher.engine.status ≠ .silent))
    (hcut : s.modeProfile.cutPermission ≠ 0) : s.outputPath = .cutLine := by
  rw [State.outputPath, ModeProfile.cutPermitted_eq_true hcut, choosePath_of_cut h]

theorem State.outputPath_of_closed (h : ¬(s.link.state = .joined ∧ s.publisher.engine.status ≠ .silent))
    (hcut : s.modeProfile.cutPermission = 0) : s.outputPath = .none := by
  rw [State.outputPath, ModeProfile.cutPermitted_eq_false hcut, choosePath_of_closed h]

theorem State.outputPath_of_open
    (h : s.link.state = .joined ∧ s.publisher.engine.status ≠ .silent ∨ s.modeProfile.cutPermission ≠ 0) :
    s.outputPath ≠ .none ∧
      (s.link.state = .joined ∧ s.publisher.engine.status ≠ .silent → s.outputPath = .bus) ∧
      (¬(s.link.state = .joined ∧ s.publisher.engine.status ≠ .silent) → s.outputPath = .cutLine) := by
  by_cases hbus : s.link.state = .joined ∧ s.publisher.engine.status ≠ .silent
  · have hpath := State.outputPath_of_bus hbus
    exact ⟨by simp [hpath], fun _ => hpath, fun hne => absurd hbus hne⟩
  · have hpath := State.outputPath_of_cut hbus (h.resolve_left hbus)
    exact ⟨by simp [hpath], fun hb => absurd hb hbus, fun _ => hpath⟩

end

/-! ### Giving the limit up -/

/-- The regulator in a state without a limit (R105..R107). -/
def Drive.release (d : Drive) (state : DriveState) (path : DrivePath) : Drive :=
  { d with state := state, path := path, working := none, holdCount := 0 }

theorem Drive.inhibit_eq (d : Drive) : d.inhibit = d.release .inhibited .none := rfl

theorem Drive.makePassive_eq (d : Drive) (path : DrivePath) : d.makePassive path = d.release .passive path := rfl

/-! ### The frozen step -/

/-- A frozen step places the path and T_work alone (R117). -/
theorem Drive.freeze_eq (d : Drive) (path : DrivePath) (gripLimit : Nat) :
    d.freeze path gripLimit =
      { d with
        path := if d.state = .inhibited then .none else path
        working := if d.state.limits then d.working.map (min · gripLimit) else none } := by
  unfold Drive.freeze
  cases hstate : d.state <;> simp [DriveState.limits]

/-! ### The table of stage 4 -/

section

variable {d : Drive} {w : Nat} (above : Bool) (gripLimit : Nat) (delivered : Option Nat) (m : ModeProfile)

/-- The first regulating step takes the grip limit, whatever the slip (R110). -/
theorem Drive.regulate_of_free (h : d.state = .passive ∨ d.state = .inhibited) :
    d.regulate above gripLimit delivered m =
      ({ d with state := .tracking, working := some gripLimit, holdCount := 0 } : Drive).settled := by
  rcases h with h | h <;> simp [Drive.regulate, h]

theorem Drive.regulate_of_tracking (h : d.state = .tracking) (hw : d.working = some w) :
    d.regulate false gripLimit delivered m =
      ({ d with working := some (min gripLimit (w + m.trackingRise)) } : Drive).settled := by
  simp [Drive.regulate, h, hw]

/-- An intervention starts, with a breach notice (R112). -/
theorem Drive.regulate_of_breach (h : d.state = .tracking ∨ d.state = .ramping) (hw : d.working = some w) :
    d.regulate true gripLimit delivered m =
      ⟨d.cutTo (cutOnce (cutStart w gripLimit delivered) m.cutFraction), true, false⟩ := by
  rcases h with h | h <;> simp [Drive.regulate, h, hw]

/-- A further cut of the same intervention (R113, R114). -/
theorem Drive.regulate_of_again (h : d.state = .cutting ∨ d.state = .holding) (hw : d.working = some w) :
    d.regulate true gripLimit delivered m = (d.cutTo (cutOnce (min w gripLimit) m.cutFraction)).settled := by
  rcases h with h | h <;> simp [Drive.regulate, h, hw]

theorem Drive.regulate_of_cutting (h : d.state = .cutting) (hw : d.working = some w) :
    d.regulate false gripLimit delivered m =
      ({ d with state := .holding, working := some (min w gripLimit), holdCount := m.holdSteps } : Drive).settled := by
  simp [Drive.regulate, h, hw]

theorem Drive.regulate_of_holding (h : d.state = .holding) (hw : d.working = some w) (hcount : 2 ≤ d.holdCount) :
    d.regulate false gripLimit delivered m =
      ({ d with state := .holding, working := some (min w gripLimit), holdCount := d.holdCount - 1 } : Drive).settled := by
  have hmore : ¬d.holdCount ≤ 1 := by omega
  simp [Drive.regulate, h, hw, hmore]

/-- The hold runs out, and the recovery rise is applied in the same step (R114, R115). -/
theorem Drive.regulate_of_holding_end (h : d.state = .holding) (hw : d.working = some w) (hcount : d.holdCount ≤ 1) :
    d.regulate false gripLimit delivered m = (d.ramp (min w gripLimit) gripLimit m.recoveryRise).settled := by
  simp [Drive.regulate, h, hw, hcount]

theorem Drive.regulate_of_ramping (h : d.state = .ramping) (hw : d.working = some w) :
    d.regulate false gripLimit delivered m = (d.ramp w gripLimit m.recoveryRise).settled := by
  simp [Drive.regulate, h, hw]

/-- What stage 4 can make of the regulator: the rows of its table, with what bounds T_work in each (R110..R115). -/
inductive Drive.Regulates (d : Drive) (gripLimit : Nat) (m : ModeProfile) : StepResult → Prop where
  | free : d.state.limits = false → d.Regulates gripLimit m
      ({ d with state := .tracking, working := some gripLimit, holdCount := 0 } : Drive).settled
  | track (w : Nat) : d.state = .tracking → d.working = some w → d.Regulates gripLimit m
      ({ d with working := some (min gripLimit (w + m.trackingRise)) } : Drive).settled
  | cut (w start : Nat) (breach : Bool) : d.working = some w → start ≤ min w gripLimit → d.Regulates gripLimit m
      ⟨d.cutTo (cutOnce start m.cutFraction), breach, false⟩
  | hold (w count : Nat) : d.working = some w → d.Regulates gripLimit m
      ({ d with state := .holding, working := some (min w gripLimit), holdCount := count } : Drive).settled
  | ramp (w start : Nat) : d.working = some w → start ≤ w → d.Regulates gripLimit m
      (d.ramp start gripLimit m.recoveryRise).settled

theorem cutStart_le (w gripLimit : Nat) (delivered : Option Nat) :
    cutStart w gripLimit delivered ≤ min w gripLimit := by
  cases delivered
  · exact le_rfl
  · exact min_le_left _ _

theorem Drive.regulate_regulates (h : d.working.isSome = d.state.limits) :
    d.Regulates gripLimit m (d.regulate above gripLimit delivered m) := by
  have hworking : d.state.limits = true → ∃ w, d.working = some w := fun hl =>
    Option.isSome_iff_exists.mp (h.trans hl)
  cases hstate : d.state with
  | passive =>
    rw [Drive.regulate_of_free above gripLimit delivered m (.inl hstate)]
    exact .free (by rw [hstate]; rfl)
  | inhibited =>
    rw [Drive.regulate_of_free above gripLimit delivered m (.inr hstate)]
    exact .free (by rw [hstate]; rfl)
  | tracking =>
    obtain ⟨w, hw⟩ := hworking (by rw [hstate]; rfl)
    cases above
    · exact Drive.regulate_of_tracking gripLimit delivered m hstate hw ▸ .track w hstate hw
    · exact Drive.regulate_of_breach gripLimit delivered m (.inl hstate) hw ▸ .cut w _ true hw (cutStart_le _ _ _)
  | cutting =>
    obtain ⟨w, hw⟩ := hworking (by rw [hstate]; rfl)
    cases above
    · exact Drive.regulate_of_cutting gripLimit delivered m hstate hw ▸ .hold w _ hw
    · exact Drive.regulate_of_again gripLimit delivered m (.inl hstate) hw ▸ .cut w _ false hw le_rfl
  | holding =>
    obtain ⟨w, hw⟩ := hworking (by rw [hstate]; rfl)
    cases above
    · by_cases hcount : d.holdCount ≤ 1
      · exact Drive.regulate_of_holding_end gripLimit delivered m hstate hw hcount ▸ .ramp w _ hw (min_le_left _ _)
      · exact Drive.regulate_of_holding gripLimit delivered m hstate hw (by omega) ▸ .hold w _ hw
    · exact Drive.regulate_of_again gripLimit delivered m (.inr hstate) hw ▸ .cut w _ false hw le_rfl
  | ramping =>
    obtain ⟨w, hw⟩ := hworking (by rw [hstate]; rfl)
    cases above
    · exact Drive.regulate_of_ramping gripLimit delivered m hstate hw ▸ .ramp w _ hw le_rfl
    · exact Drive.regulate_of_breach gripLimit delivered m (.inr hstate) hw ▸ .cut w _ true hw (cutStart_le _ _ _)

/-- Stage 4 places state, T_work and hold count alone, and freezes nothing. -/
theorem Drive.regulate_keeps (d : Drive) :
    (∃ state working hold, (d.regulate above gripLimit delivered m).drive =
      { d with state := state, working := some working, holdCount := hold }) ∧
      (d.regulate above gripLimit delivered m).frozen = false := by
  unfold Drive.regulate
  dsimp only
  repeat' split
  all_goals exact ⟨⟨_, _, _, rfl⟩, rfl⟩

end

/-! ### The stages of a step -/

section

variable {s : State} {b : BudgetRecord} {vf vr : Nat}

/-- Stage 1: no recent budget, or no usable speeds (R105). -/
theorem State.driveStages_of_blind
    (h : s.grip.latest = none ∨ (∃ b, s.grip.latest = some b ∧ 200 < s.budgetAge b) ∨
      s.topics.frontSpeed = none ∨ s.topics.rearSpeed = none) :
    s.driveStages = (s.drive.release .inhibited .none).settled := by
  unfold State.driveStages
  dsimp only
  split
  · next b vf vr hb hf hr =>
    have hold : 200 < s.budgetAge b := by simpa [hb, hf, hr] using h
    rw [if_pos hold, Drive.inhibit_eq]
  · rfl

/-- Stage 2: no path (R106). -/
theorem State.driveStages_of_closed (h : s.outputPath = .none) :
    s.driveStages = (s.drive.release .inhibited .none).settled := by
  rw [State.outputPath] at h
  unfold State.driveStages
  simp only [h, if_true, ite_self, Drive.inhibit_eq]
  split <;> rfl

section

variable (hb : s.grip.latest = some b) (hage : s.budgetAge b ≤ 200) (hf : s.topics.frontSpeed = some vf)
  (hr : s.topics.rearSpeed = some vr) (hpath : s.outputPath ≠ .none)

include hb hage hf hr hpath

/-- Stage 3: neutral, or below 3.00 m/s (R107). -/
theorem State.driveStages_of_quiet (h : s.topics.gear = some 0 ∨ vf < 300) :
    s.driveStages = (s.drive.release .passive s.outputPath).settled := by
  have hquiet : passiveCondition s.topics.gear vf = true := by simpa [passiveCondition] using h
  rw [State.outputPath] at hpath ⊢
  simp only [State.driveStages, hb, hf, hr, Nat.not_lt.mpr hage, hpath, hquiet, if_true, if_false,
    Drive.makePassive_eq]

section

variable (hv : 300 ≤ vf) (hgear : s.topics.gear ≠ some 0)

include hv hgear

/-- Stage 4 over LATE speeds (R117). -/
theorem State.driveStages_of_late (hlate : s.topics.wheelSpeeds.freshness = .late) :
    s.driveStages = ⟨s.drive.freeze s.outputPath b.driveGripLimit, false, true⟩ := by
  have hmoving : passiveCondition s.topics.gear vf = false := by simp [passiveCondition, hgear, hv]
  rw [State.outputPath] at hpath ⊢
  simp [State.driveStages, hb, hf, hr, Nat.not_lt.mpr hage, hpath, hmoving, hlate]

/-- Stage 4 over FRESH speeds: the slip is measured and judged (R108, R110..R115). -/
theorem State.driveStages_of_fresh (hfresh : s.topics.wheelSpeeds.freshness ≠ .late) :
    s.driveStages =
      (s.drive.measure s.outputPath (slipOf vf vr)
          (slipTargetOf (s.profile.gripRow b.band).slipTarget s.modeProfile.slipScale) b.band).regulate
        (decide (slipTargetOf (s.profile.gripRow b.band).slipTarget s.modeProfile.slipScale < slipOf vf vr))
        b.driveGripLimit s.topics.deliveredTorque s.modeProfile := by
  have hmoving : passiveCondition s.topics.gear vf = false := by simp [passiveCondition, hgear, hv]
  rw [State.outputPath] at hpath ⊢
  simp [State.driveStages, hb, hf, hr, Nat.not_lt.mpr hage, hpath, hmoving, hfresh]

end

end

/-- What a step can make of the regulator: it gives the limit up, it freezes over a budget, or it regulates by one. -/
inductive State.DriveStagesMake (s : State) : StepResult → Prop where
  | inhibited : s.DriveStagesMake (s.drive.release .inhibited .none).settled
  | passive : s.outputPath ≠ .none → s.DriveStagesMake (s.drive.release .passive s.outputPath).settled
  | frozen (b : BudgetRecord) : s.grip.latest = some b → s.outputPath ≠ .none →
      s.DriveStagesMake ⟨s.drive.freeze s.outputPath b.driveGripLimit, false, true⟩
  | regulated (b : BudgetRecord) (slip target : Nat) : s.grip.latest = some b → s.outputPath ≠ .none →
      s.DriveStagesMake ((s.drive.measure s.outputPath slip target b.band).regulate (decide (target < slip))
        b.driveGripLimit s.topics.deliveredTorque s.modeProfile)

theorem State.driveStages_make (s : State) : s.DriveStagesMake s.driveStages := by
  by_cases hblind : s.grip.latest = none ∨ (∃ b, s.grip.latest = some b ∧ 200 < s.budgetAge b) ∨
      s.topics.frontSpeed = none ∨ s.topics.rearSpeed = none
  · exact State.driveStages_of_blind hblind ▸ .inhibited
  by_cases hpath : s.outputPath = .none
  · exact State.driveStages_of_closed hpath ▸ .inhibited
  obtain ⟨hlatest, hold, hfront, hrear⟩ := by simpa only [not_or] using hblind
  obtain ⟨b, hb⟩ := Option.ne_none_iff_exists'.mp hlatest
  obtain ⟨vf, hf⟩ := Option.ne_none_iff_exists'.mp hfront
  obtain ⟨vr, hr⟩ := Option.ne_none_iff_exists'.mp hrear
  have hage : s.budgetAge b ≤ 200 := Nat.not_lt.mp fun h => hold ⟨b, hb, h⟩
  by_cases hquiet : s.topics.gear = some 0 ∨ vf < 300
  · exact State.driveStages_of_quiet hb hage hf hr hpath hquiet ▸ .passive hpath
  obtain ⟨hgear, hv⟩ := not_or.mp hquiet
  by_cases hlate : s.topics.wheelSpeeds.freshness = .late
  · exact State.driveStages_of_late hb hage hf hr hpath (Nat.not_lt.mp hv) hgear hlate ▸ .frozen b hb hpath
  · exact State.driveStages_of_fresh hb hage hf hr hpath (Nat.not_lt.mp hv) hgear hlate ▸ .regulated b _ _ hb hpath

end

/-! ### The whole step -/

/-- The state in which a regulation step acts: its moment has come, and its timer runs again (R103). -/
def State.atDriveStep (s : State) (due : Nat) : State :=
  (s.until due).setDrive { s.drive with stepDue := some (max s.now due + 50) }

theorem exec_regulationStep_of_due {s : State} {due : Nat} (h : s.drive.stepDue = some due) :
    exec .regulationStep s = .next (s.atDriveStep due).regulationStep := by
  simp only [exec, execRegulationStep, h]
  rfl

theorem exec_regulationStep_of_stopped {s : State} (h : s.drive.stepDue = none) : exec .regulationStep s = .next s := by
  simp only [exec, execRegulationStep, h]

section

variable (s : State)

theorem State.regulationStep_drive : s.regulationStep.drive = s.driveAfter s.driveStages := by
  simp [State.regulationStep]

theorem State.regulationStep_grip : s.regulationStep.grip = (s.driveNotice s.driveStages).grip := by
  simp [State.regulationStep]

theorem State.regulationStep_grip_of_quiet (h : s.driveStages.breach = false) : s.regulationStep.grip = s.grip := by
  rw [s.regulationStep_grip, State.driveNotice, h]

theorem State.regulationStep_generator :
    s.regulationStep.generator =
      s.generator.handover s.regulationStep.drive.path s.regulationStep.drive.lastDemand s.topics.atRest s.now
        s.profile.cutPeriod := by
  rw [s.regulationStep_drive]
  simp [State.regulationStep, State.handover, State.profile]

theorem State.publishLimit_onlyOffers (c : Consumer) (v : LimitValue) :
    s.link.onlyOffers (s.publishLimit c v).link := by
  unfold State.publishLimit
  split
  · exact State.offer_onlyOffers (s.setPublisher _) _ _
  · exact Link.onlyOffers_refl _

/-- A step offers a DRIVE_LIMIT frame and the frame of a lamp change at most. -/
theorem State.regulationStep_onlyOffers : s.link.onlyOffers s.regulationStep.link := by
  have hpublish := State.publishLimit_onlyOffers ((s.driveNotice s.driveStages).setDrive (s.driveAfter s.driveStages))
    .engine (.drive (s.driveAfter s.driveStages).value)
  rw [State.setDrive_link, State.driveNotice_link] at hpublish
  exact Link.onlyOffers_trans hpublish (State.tellStep_onlyOffers (State.handover _ _ _) _)

/-- The blocks that a regulation step can reach. -/
theorem State.atDriveStep_onlyChanges (due : Nat) :
    s.onlyChanges (s.atDriveStep due).regulationStep [.now, .drive, .grip, .link, .publisher, .generator, .monitor] := by
  intro p hp
  cases p <;> simp_all [State.agreesOn, State.atDriveStep]

/-- A step without a breach notice leaves the Grip Budget Unit. -/
theorem State.atDriveStep_onlyChanges_of_quiet (due : Nat) (h : (s.atDriveStep due).driveStages.breach = false) :
    s.onlyChanges (s.atDriveStep due).regulationStep [.now, .drive, .link, .publisher, .generator, .monitor] := by
  intro p hp
  by_cases hgrip : p = .grip
  · subst hgrip
    exact State.regulationStep_grip_of_quiet _ h
  · exact s.atDriveStep_onlyChanges due p (by simp_all)

end

/-! ### What the step leaves of the regulator -/

section

variable (s : State) (r : StepResult)

@[simp] theorem State.driveAfter_state : (s.driveAfter r).state = r.drive.state := rfl
@[simp] theorem State.driveAfter_path : (s.driveAfter r).path = r.drive.path := rfl
@[simp] theorem State.driveAfter_working : (s.driveAfter r).working = r.drive.working := rfl
@[simp] theorem State.driveAfter_holdCount : (s.driveAfter r).holdCount = r.drive.holdCount := rfl
@[simp] theorem State.driveAfter_lastSlip : (s.driveAfter r).lastSlip = r.drive.lastSlip := rfl
@[simp] theorem State.driveAfter_lastTarget : (s.driveAfter r).lastTarget = r.drive.lastTarget := rfl
@[simp] theorem State.driveAfter_lastBand : (s.driveAfter r).lastBand = r.drive.lastBand := rfl
@[simp] theorem State.driveAfter_stepDue : (s.driveAfter r).stepDue = r.drive.stepDue := rfl
@[simp] theorem State.driveAfter_lastState : (s.driveAfter r).lastState = some r.drive.state := rfl
@[simp] theorem State.driveAfter_lastWorking : (s.driveAfter r).lastWorking = r.drive.working := rfl
@[simp] theorem State.driveAfter_lastHold : (s.driveAfter r).lastHold = r.drive.holdCount := rfl
@[simp] theorem State.driveAfter_frozenSteps :
    (s.driveAfter r).frozenSteps = if r.frozen then bump r.drive.frozenSteps else r.drive.frozenSteps := rfl
@[simp] theorem State.driveAfter_lastDemand :
    (s.driveAfter r).lastDemand = r.drive.demand s.topics.riderDemand s.profile.blindSlots := rfl

/-- What a step leaves is what the other blocks read until the next (R103, R123). -/
theorem State.regulationStep_leaves :
    s.regulationStep.drive.lastState = some s.regulationStep.drive.state ∧
      s.regulationStep.drive.lastWorking = s.regulationStep.drive.working ∧
      s.regulationStep.drive.lastHold = s.regulationStep.drive.holdCount := by
  simp [s.regulationStep_drive]

end

end Sys2Proof.Machine
end

section
/-! The drive and brake channels stay as R104, R130 and R136 describe them: each of the two steps makes its channel
anew, a chassis reset and power-on give every limit up, and nothing else reaches what the invariant speaks of. -/

namespace Sys2Proof.Machine

/-! ### The regulator -/

section

variable {d d' : Drive}

/-- The regulator reads as in order by four of its parts. -/
theorem Drive.inOrder_congr (hworking : d'.working = d.working) (hstate : d'.state = d.state)
    (hhold : d'.holdCount = d.holdCount) (hpath : d'.path = d.path) (h : d.inOrder) : d'.inOrder := by
  rwa [Drive.inOrder, hworking, hstate, hhold, hpath]

/-- In a state without a limit the path is free but for INHIBITED. -/
theorem Drive.release_inOrder (d : Drive) {state : DriveState} {path : DrivePath} (hstate : state.limits = false)
    (hpath : state = .inhibited → path = .none) : (d.release state path).inOrder :=
  ⟨hstate.symm, fun h => absurd rfl h, hpath, fun h => absurd (hstate.symm.trans h) Bool.false_ne_true⟩

/-- With a limit the path is another than NONE. -/
theorem Drive.inOrder_of_limits {w : Nat} (hstate : d.state.limits = true) (hworking : d.working = some w)
    (hhold : d.holdCount ≠ 0 → d.state = .holding) (hpath : d.path ≠ .none) : d.inOrder := by
  refine ⟨by rw [hworking, hstate]; rfl, hhold, fun h => ?_, fun _ => hpath⟩
  rw [h] at hstate
  cases hstate

theorem Drive.freeze_inOrder {path : DrivePath} (gripLimit : Nat) (h : d.inOrder) (hpath : path ≠ .none) :
    (d.freeze path gripLimit).inOrder := by
  obtain ⟨hworking, hhold, -, -⟩ := h
  rw [Drive.freeze_eq]
  refine ⟨?_, hhold, fun hstate => if_pos hstate, fun hlimits => ?_⟩
  · cases hstate : d.state.limits <;> simp [hstate, hworking]
  · have hne : d.state ≠ .inhibited := fun hstate => by simp [hstate, DriveState.limits] at hlimits
    simpa [hne] using hpath

theorem Drive.ramp_inOrder (d : Drive) (t gripLimit rise : Nat) (hpath : d.path ≠ .none) :
    (d.ramp t gripLimit rise).inOrder := by
  refine Drive.inOrder_of_limits ?_ rfl (fun h => absurd rfl h) hpath
  unfold Drive.ramp
  dsimp only
  split <;> rfl

/-- Every row of the table of stage 4 ends in a limiting state, and only those that end in HOLDING leave a count. -/
theorem Drive.Regulates.inOrder {gripLimit : Nat} {m : ModeProfile} {r : StepResult} (h : d.Regulates gripLimit m r)
    (hhold : d.holdCount ≠ 0 → d.state = .holding) (hpath : d.path ≠ .none) : r.drive.inOrder := by
  cases h with
  | free => exact Drive.inOrder_of_limits rfl rfl (fun h => absurd rfl h) hpath
  | track w hstate => exact Drive.inOrder_of_limits (congrArg DriveState.limits hstate) rfl hhold hpath
  | cut => exact Drive.inOrder_of_limits rfl rfl (fun h => absurd rfl h) hpath
  | hold => exact Drive.inOrder_of_limits rfl rfl (fun _ => rfl) hpath
  | ramp w start => exact Drive.ramp_inOrder d start gripLimit m.recoveryRise hpath

end

theorem State.DriveStagesMake.inOrder {s : State} {r : StepResult} (h : s.DriveStagesMake r) (hs : s.drive.inOrder) :
    r.drive.inOrder := by
  cases h with
  | inhibited => exact Drive.release_inOrder _ rfl fun _ => rfl
  | passive hpath => exact Drive.release_inOrder _ rfl fun h => nomatch h
  | frozen b hb hpath => exact Drive.freeze_inOrder _ hs hpath
  | regulated b slip target hb hpath =>
    obtain ⟨hworking, hhold, -, -⟩ := hs
    exact (Drive.regulate_regulates (d := s.drive.measure _ _ _ _) _ _ _ _ hworking).inOrder hhold hpath

theorem State.regulationStep_driveInOrder {s : State} (h : s.drive.inOrder) : s.regulationStep.drive.inOrder := by
  rw [s.regulationStep_drive]
  exact Drive.inOrder_congr rfl rfl rfl rfl (s.driveStages_make.inOrder h)

/-! ### The wheels -/

section

variable {w w' : Wheel}

theorem Wheel.inOrder_congr (hpublished : w'.published = w.published) (hstate : w'.state = w.state) (h : w.inOrder) :
    w'.inOrder := by
  rwa [Wheel.inOrder, hpublished, hstate]

theorem Wheel.release_inOrder (w : Wheel) {state : WheelState} (h : state.limits = false) :
    (w.release state).inOrder := ⟨h.symm, fun _ hp => nomatch hp⟩

/-- A limit clamped to 2000 in a limiting state (R136). -/
theorem Wheel.inOrder_of_clamped {floor p : Nat} (hfloor : floor ≤ 2000) (hstate : w.state.limits = true)
    (hpublished : w.published = some (clampNat floor brakeMaximum p)) : w.inOrder := by
  refine ⟨by rw [hpublished, hstate]; rfl, fun q hq => ?_⟩
  obtain rfl := Option.some.inj (hpublished.symm.trans hq)
  exact clampNat_le hfloor p

theorem Wheel.supervise_inOrder (w : Wheel) {x : WheelInputs} (rise fall : Nat) (hfloor : x.floor ≤ 2000) :
    (w.supervise x rise fall).inOrder := by
  unfold Wheel.supervise
  split
  · exact Wheel.release_inOrder w rfl
  · split
    · exact Wheel.inOrder_of_clamped hfloor rfl rfl
    · refine Wheel.inOrder_of_clamped hfloor ?_ rfl
      unfold Wheel.limit
      dsimp only
      split <;> rfl

theorem Wheel.reset_inOrder (w : Wheel) : w.reset.inOrder := Wheel.release_inOrder w (state := .passive) rfl

theorem Wheel.arrival_inOrder (abs : Option Bool) (noticed : Bool) (h : w.inOrder) :
    (w.arrival abs noticed).inOrder := Wheel.inOrder_congr rfl rfl h

end

/-- Both wheels are in order (R130, R136). -/
def Brake.inOrder (b : Brake) : Prop := b.front.inOrder ∧ b.rear.inOrder

theorem State.brakeStages_inOrder {s : State} (hp : s.profile.inRange) :
    s.brakeStages.1.inOrder ∧ s.brakeStages.2.inOrder := by
  obtain ⟨-, -, -, -, -, -, -, -, -, -, -, hfront, hrear, -⟩ := State.modeProfile_inRange hp
  have hinhibited : (s.brake.front.release .inhibited).inOrder ∧ (s.brake.rear.release .inhibited).inOrder :=
    ⟨Wheel.release_inOrder _ rfl, Wheel.release_inOrder _ rfl⟩
  unfold State.brakeStages
  dsimp only
  split
  · split
    · exact hinhibited
    · exact ⟨Wheel.supervise_inOrder _ _ _ hfront, Wheel.supervise_inOrder _ _ _ hrear⟩
  · exact hinhibited

theorem State.brakeStep_brake (s : State) : s.brakeStep.brake = s.brakeAfter := by
  simp [State.brakeStep]

theorem State.brakeStep_brakeInOrder {s : State} (hp : s.profile.inRange) : s.brakeStep.brake.inOrder := by
  obtain ⟨hfront, hrear⟩ := State.brakeStages_inOrder hp
  rw [s.brakeStep_brake]
  exact ⟨Wheel.inOrder_congr rfl rfl hfront, Wheel.inOrder_congr rfl rfl hrear⟩

/-! ### Both channels -/

/-- The regulator and both wheels are in order. -/
def State.channelsInOrder (s : State) : Prop := s.drive.inOrder ∧ s.brake.inOrder

section

variable {s t : State}

theorem State.channelsInOrder_congr (hdrive : t.drive = s.drive) (hbrake : t.brake = s.brake)
    (h : s.channelsInOrder) : t.channelsInOrder := by
  rwa [State.channelsInOrder, hdrive, hbrake]

/-- A chassis reset takes both channels to PASSIVE (R126, R145). -/
theorem State.resetMessage_channelsInOrder (f : Frame) (h : s.channelsInOrder) :
    (s.resetMessage f).channelsInOrder := by
  unfold State.resetMessage
  split
  · rw [State.channelsInOrder, State.chassisReset_drive, State.chassisReset_brake]
    exact ⟨Drive.release_inOrder _ (state := .passive) rfl (fun h => nomatch h), Wheel.reset_inOrder _,
      Wheel.reset_inOrder _⟩
  · exact h

/-- Of the arrivals that of BRAKE_STATE alone reaches a wheel, and there its ABS memory (R140). -/
theorem State.announce_channelsInOrder (e : EntryName) (h : s.channelsInOrder) : (s.announce e).channelsInOrder := by
  obtain ⟨hdrive, hfront, hrear⟩ := h
  refine ⟨by rwa [State.announce_drive], ?_⟩
  by_cases he : e = .brakeState
  · subst he
    have hbrake : (s.echoArrival .brake).brake = s.brake := by simp
    exact ⟨Wheel.arrival_inOrder _ _ (hbrake ▸ hfront), Wheel.arrival_inOrder _ _ (hbrake ▸ hrear)⟩
  · have hbrake : (s.announce e).brake = s.brake := by
      cases e <;> simp_all [State.announce]
    exact hbrake.symm ▸ ⟨hfront, hrear⟩

/-! ### Frames -/

/-- A frame that an entry discards leaves the channels, and one that it accepts is announced (R22..R25, R34). -/
theorem State.offerEntry_channelsInOrder (e : EntryName) (f : Frame) (h : s.channelsInOrder) :
    (s.offerEntry e f).channelsInOrder := by
  cases hverdict : (s.topics.get e).judge e (s.binding e) f with
  | malformed =>
    rw [State.offerEntry_of_malformed hverdict]
    exact State.channelsInOrder_congr (by simp) (by simp) h
  | intruder =>
    rw [State.offerEntry_of_intruder hverdict]
    exact State.channelsInOrder_congr (by simp) (by simp) h
  | duplicate =>
    rw [State.offerEntry_of_duplicate hverdict]
    exact State.channelsInOrder_congr (by simp) (by simp) h
  | accepted =>
    rw [State.offerEntry_of_accepted hverdict]
    exact State.announce_channelsInOrder e
      (State.channelsInOrder_congr (by simp [State.accepted]) (by simp [State.accepted]) h)

theorem State.offerEntries_channelsInOrder (f : Frame) (l : List EntryName) (h : s.channelsInOrder) :
    (s.offerEntries f l).channelsInOrder := by
  induction l generalizing s with
  | nil => exact h
  | cons e rest ih => exact ih (State.offerEntry_channelsInOrder e f h)

theorem State.handOver_channelsInOrder (f : Frame) (h : s.channelsInOrder) : (s.handOver f).channelsInOrder := by
  unfold State.handOver
  split
  · exact State.offerEntries_channelsInOrder f _ h
  · split
    · exact State.resetMessage_channelsInOrder f h
    · split
      · exact State.channelsInOrder_congr (State.serve_drive s _) (State.serve_brake s _) h
      · exact h

theorem State.receive_channelsInOrder (heard : Heard) (h : s.channelsInOrder) : (s.receive heard).channelsInOrder := by
  cases heard with
  | good f =>
    exact State.handOver_channelsInOrder (s := s.driveSlot _) f
      (State.channelsInOrder_congr (State.driveSlot_drive s _) (State.driveSlot_brake s _) h)
  | badHeader | badLength | badPayload => exact h

theorem State.hearFrame_channelsInOrder (bits : List Level) (h : s.channelsInOrder) :
    (s.hearFrame bits).channelsInOrder := by
  unfold State.hearFrame
  split
  · exact State.receive_channelsInOrder _
      (State.channelsInOrder_congr (State.clashTest_drive s _) (State.clashTest_brake s _) h)
  · exact h

/-! ### The commands -/

/-- The completion of the load starts the two step timers and leaves the rest of the channels (R103, R129). -/
theorem State.loadComplete_channelsInOrder (h : s.channelsInOrder) : s.loadComplete.channelsInOrder := by
  obtain ⟨hdrive, hfront, hrear⟩ := h
  have hd : s.loadComplete.drive = { s.drive with stepDue := s.loadComplete.drive.stepDue } := by
    simp [State.loadComplete, State.startTimers_drive]
  have hb : s.loadComplete.brake = { s.brake with stepDue := s.loadComplete.brake.stepDue } := by
    simp [State.loadComplete, State.startTimers_brake]
  rw [State.channelsInOrder, hd, hb]
  exact ⟨Drive.inOrder_congr rfl rfl rfl rfl hdrive, hfront, hrear⟩

/-- The commands that reach the channels: power-on, the completion of the load, a heard frame and the two steps. -/
def reachesChannels : Instr → Bool
  | .powerOn | .profileLoadComplete _ | .frameHeard _ _ | .regulationStep | .brakeStep => true
  | _ => false

theorem exec_channels_of_not_reaches {c : Instr} (hc : reachesChannels c = false) (h : exec c s = .next t) :
    t.drive = s.drive ∧ t.brake = s.brake := by
  cases c with
  | powerOn | profileLoadComplete | frameHeard | regulationStep | brakeStep => cases hc
  | frameStart | arbitrationLoss | collided | ackSlotRead | mediumIdle =>
    cases h
    simp
  | muteExpiry | joinWaitExpiry | deadlineExpiry | staleExpiry | atRestExpiry | baseValidityExpiry | reliefExpiry
  | gripState | echoDeadlineExpiry | assertionEndExpiry | cutPeriodExpiry | ltStatus | windowExpiry =>
    simp only [exec, execMuteExpiry, execJoinWaitExpiry, execDeadlineExpiry, execStaleExpiry, execAtRestExpiry,
      execBaseValidityExpiry, execReliefExpiry, execGripState, execEchoDeadlineExpiry, execAssertionEndExpiry,
      execCutPeriodExpiry, execLtStatus, execWindowExpiry] at h
    split at h
    all_goals
      cases h
      simp
  | storePageBurstEnd | storePageDone | storePageTimeout | storeReadbackComplete | readBurstEnd =>
    simp only [exec, execStorePageBurstEnd, execStorePageDone, execStorePageTimeout, execStoreReadbackComplete,
      execReadBurstEnd] at h
    repeat' split at h
    all_goals
      cases h
      simp

theorem State.poweredOn_channelsInOrder (m : Memory) (p : List Instr) (d : Nat) :
    (State.poweredOn m p d).channelsInOrder :=
  ⟨Drive.release_inOrder Drive.initial (state := .passive) rfl (fun h => nomatch h),
    Wheel.reset_inOrder Wheel.initial, Wheel.reset_inOrder Wheel.initial⟩

theorem execProfileLoadComplete_channelsInOrder {min : Option (List Byte)} (hs : s.channelsInOrder)
    (h : execProfileLoadComplete min s = .next t) : t.channelsInOrder := by
  unfold execProfileLoadComplete at h
  split at h
  · cases h
    exact State.loadComplete_channelsInOrder (State.channelsInOrder_congr (by simp) (by simp) hs)
  · cases h
    exact hs

theorem exec_channelsInOrder {c : Instr} (hp : s.profile.inRange) (hs : s.channelsInOrder)
    (h : exec c s = .next t) : t.channelsInOrder := by
  obtain ⟨hdrive, hbrake⟩ := id hs
  cases hc : reachesChannels c with
  | false =>
    obtain ⟨hd, hb⟩ := exec_channels_of_not_reaches hc h
    exact State.channelsInOrder_congr hd hb hs
  | true =>
    cases c with
    | powerOn =>
      cases h
      exact State.poweredOn_channelsInOrder _ _ _
    | profileLoadComplete min => exact execProfileLoadComplete_channelsInOrder hs h
    | frameHeard after bits =>
      cases h
      exact State.hearFrame_channelsInOrder (s := s.elapse after) bits hs
    | regulationStep =>
      cases hdue : s.drive.stepDue with
      | none =>
        rw [exec_regulationStep_of_stopped hdue, Host.Outcome.next.injEq] at h
        exact h ▸ hs
      | some due =>
        rw [exec_regulationStep_of_due hdue, Host.Outcome.next.injEq] at h
        subst h
        exact ⟨State.regulationStep_driveInOrder (s := s.atDriveStep due)
          (Drive.inOrder_congr rfl rfl rfl rfl hdrive), by rwa [State.regulationStep_brake]⟩
    | brakeStep =>
      simp only [exec, execBrakeStep] at h
      split at h
      · cases h
        exact ⟨by rwa [State.brakeStep_drive], State.brakeStep_brakeInOrder hp⟩
      · cases h
        exact hs
    | _ => cases hc

end

/-- Settles O48: one command keeps both channels in order, the brake floors being in their ranges when the brake step
reads them, and neither the queue nor passing time reaches the channels. -/
theorem channelsStayInOrder : Obligations.ChannelsStayInOrder := by
  intro s t hp hdrive hfront hrear h
  have hs : s.channelsInOrder := ⟨hdrive, hfront, hrear⟩
  rcases step_cases h with ⟨c, q, hexec⟩ | rfl
  · exact exec_channelsInOrder (s := s.setPending q) hp hs hexec
  · exact hs

end Sys2Proof.Machine
end

section
/-! The steps that measure no slip: those that give the limit up in their first stages, and the frozen one (R105..R107,
R117, R119..R121). -/

namespace Sys2Proof.Machine

/-! ### The slot demand and the handover -/

/-- Without a limit there is no slot demand (R120). -/
theorem Drive.demand_of_free {d : Drive} (h : d.state.limits = false) (demand : Option Nat) (blindSlots : Nat) :
    d.demand demand blindSlots = 0 := by
  unfold Drive.demand Drive.demandOnCutLine
  cases hstate : d.state <;> simp_all [DriveState.limits]

/-- A handover keeps the path and the demand that it brings (R160, R161). -/
theorem Generator.handover_keeps (g : Generator) (path : DrivePath) (k : Nat) (atRest : Bool) (now periodMs : Nat) :
    (g.handover path k atRest now periodMs).lastPath = path ∧
      (g.handover path k atRest now periodMs).latestDemand = k := by
  have htest : ∀ g : Generator, (g.handoverToTest path atRest).lastPath = g.lastPath ∧
      (g.handoverToTest path atRest).latestDemand = g.latestDemand := by
    intro g
    unfold Generator.handoverToTest
    repeat' split
    all_goals exact ⟨rfl, rfl⟩
  have htake : ∀ g : Generator, (g.takeHandover path k now periodMs).lastPath = g.lastPath ∧
      (g.takeHandover path k now periodMs).latestDemand = g.latestDemand := by
    intro g
    unfold Generator.takeHandover Generator.extend
    dsimp only
    repeat' split
    all_goals exact ⟨rfl, rfl⟩
  unfold Generator.handover
  rw [(htake _).1, (htake _).2, (htest _).1, (htest _).2]
  exact ⟨rfl, rfl⟩

theorem State.regulationStep_handed (s : State) :
    s.regulationStep.generator.lastPath = s.regulationStep.drive.path ∧
      s.regulationStep.generator.latestDemand = s.regulationStep.drive.lastDemand := by
  rw [s.regulationStep_generator]
  exact Generator.handover_keeps _ _ _ _ _ _

/-! ### A step that gives the limit up -/

section

variable {s : State}

/-- The step leaves what the stages release, without a demand (R105..R107, R120). -/
theorem State.regulationStep_of_release {state : DriveState} {path : DrivePath} (hstate : state.limits = false)
    (h : s.driveStages = (s.drive.release state path).settled) :
    ∃ d, s.regulationStep.drive = d ∧ d.state = state ∧ d.path = path ∧ d.working = none ∧ d.holdCount = 0 ∧
      d.lastSlip = s.drive.lastSlip ∧ d.lastTarget = s.drive.lastTarget ∧ d.lastBand = s.drive.lastBand ∧
      d.lastDemand = 0 ∧ d.stepDue = s.drive.stepDue := by
  refine ⟨_, s.regulationStep_drive, ?_⟩
  rw [h]
  exact ⟨rfl, rfl, rfl, rfl, rfl, rfl, rfl, Drive.demand_of_free hstate _ _, rfl⟩

/-- The step freezes what the stages freeze (R117). -/
theorem State.regulationStep_of_freeze {path : DrivePath} {gripLimit : Nat} (hin : s.drive.inOrder)
    (h : s.driveStages = ⟨s.drive.freeze path gripLimit, false, true⟩) :
    ∃ d, s.regulationStep.drive = d ∧ d.state = s.drive.state ∧ d.holdCount = s.drive.holdCount ∧
      d.working = s.drive.working.map (min · gripLimit) ∧ d.lastSlip = s.drive.lastSlip ∧
      d.lastTarget = s.drive.lastTarget ∧ d.lastBand = s.drive.lastBand ∧
      d.frozenSteps = bump s.drive.frozenSteps ∧ d.stepDue = s.drive.stepDue ∧
      d.path = if s.drive.state = .inhibited then .none else path := by
  obtain ⟨hworking, -, -, -⟩ := hin
  refine ⟨_, s.regulationStep_drive, ?_⟩
  rw [h, Drive.freeze_eq]
  refine ⟨rfl, rfl, ?_, rfl, rfl, rfl, rfl, rfl, rfl⟩
  cases hlimits : s.drive.state.limits with
  | true => rfl
  | false =>
    have hnone : s.drive.working = none := Option.not_isSome_iff_eq_none.mp (by simp [hworking, hlimits])
    simp [hnone]

end

/-- Settles O44: each of the first three stages settles the step by what it releases, and LATE speeds freeze what the
order of the regulator tells. -/
theorem stepsThatMeasureNoSlip : Obligations.StepsThatMeasureNoSlip := by
  constructor
  · intro s due hdue u blind bus quiet settled
    let v := s.atDriveStep due
    have hsettled : ∀ state path, state.limits = false → v.driveStages = (v.drive.release state path).settled →
        ∃ t, exec .regulationStep s = .next t ∧ settled t state path := by
      intro state path hstate hstages
      obtain ⟨d, hd, hdstate, hdpath, hworking, hhold, hslip, htarget, hband, hdemand, hstep⟩ :=
        State.regulationStep_of_release hstate hstages
      refine ⟨v.regulationStep, exec_regulationStep_of_due hdue, v.regulationStep_now, ?_⟩
      rw [v.regulationStep_handed.1, hd]
      exact ⟨hdstate, hdpath, hworking, hhold, hslip, htarget, hband, hdemand, hstep, hdpath,
        v.regulationStep_onlyOffers, s.atDriveStep_onlyChanges_of_quiet due (congrArg StepResult.breach hstages)⟩
    have hpassive : ¬blind → quiet → v.outputPath ≠ .none →
        v.driveStages = (v.drive.release .passive v.outputPath).settled := by
      intro hsees hquiet hpath
      obtain ⟨hlatest, hold, hfront, hrear⟩ := by simpa only [blind, not_or] using hsees
      obtain ⟨b, hb⟩ := Option.ne_none_iff_exists'.mp hlatest
      obtain ⟨vf, hf⟩ := Option.ne_none_iff_exists'.mp hfront
      obtain ⟨vr, hr⟩ := Option.ne_none_iff_exists'.mp hrear
      have hage : v.budgetAge b ≤ 200 := Nat.not_lt.mp fun h => hold ⟨b, hb, h⟩
      refine State.driveStages_of_quiet (s := v) hb hage hf hr hpath (hquiet.imp_right ?_)
      rintro ⟨x, hx, hslow⟩
      exact Option.some.inj (hf.symm.trans hx) ▸ hslow
    refine ⟨?_, fun hsees hquiet hbus => ?_, fun hsees hquiet hcut hpermit => ?_⟩
    · rintro (hblind | ⟨hcut, hforbid⟩)
      · exact hsettled _ _ rfl (State.driveStages_of_blind (s := v) hblind)
      · exact hsettled _ _ rfl (State.driveStages_of_closed (State.outputPath_of_closed (s := v) hcut hforbid))
    · have hpath : v.outputPath = .bus := State.outputPath_of_bus (s := v) hbus
      exact hsettled _ _ rfl (hpath ▸ hpassive hsees hquiet (by simp [hpath]))
    · have hpath : v.outputPath = .cutLine := State.outputPath_of_cut (s := v) hcut hpermit
      exact hsettled _ _ rfl (hpath ▸ hpassive hsees hquiet (by simp [hpath]))
  · intro s due vf vr b hdue hb hage hlate hf hr hv hgear hopen hin
    let v := s.atDriveStep due
    obtain ⟨hpath, hbus, hcut⟩ := State.outputPath_of_open (s := v) hopen
    have hstages := State.driveStages_of_late (s := v) hb hage hf hr hpath hv hgear hlate
    obtain ⟨d, hd, hstate, hhold, hworking, hslip, htarget, hband, hfrozen, hstep, hdpath⟩ :=
      State.regulationStep_of_freeze (s := v) (Drive.inOrder_congr rfl rfl rfl rfl hin) hstages
    have hquiet : v.driveStages.breach = false := congrArg StepResult.breach hstages
    refine ⟨v.regulationStep, exec_regulationStep_of_due hdue, v.regulationStep_now, ?_⟩
    rw [hd, v.regulationStep_now]
    refine ⟨hstate, hhold, hworking, hslip, htarget, hband, hfrozen, hstep, fun h => hdpath.trans (if_pos h),
      fun h => ?_, State.regulationStep_grip_of_quiet v hquiet, s.atDriveStep_onlyChanges_of_quiet due hquiet⟩
    rw [hdpath.trans (if_neg h)]
    exact ⟨hbus, hcut⟩

end Sys2Proof.Machine
end

section
/-! The step that measures slip: the table of stage 4, with a breach notice at an entry into CUTTING from TRACKING or
RAMPING alone (R106, R108..R115). -/

namespace Sys2Proof.Machine

theorem slipOf_eq (vf vr : Nat) : slipOf vf vr = if vf < vr then min 1024 ((vr - vf) * 1024 / vf) else 0 := by
  rw [slipOf, clampNat_eq_max_min (Nat.zero_le _), Nat.zero_max]

section

variable {s : State}

/-- A step that measures slip records it and takes its path (R106, R108). -/
theorem State.regulationStep_of_measure {path : DrivePath} {slip target band gripLimit : Nat} {above : Bool}
    {delivered : Option Nat} {m : ModeProfile}
    (h : s.driveStages = (s.drive.measure path slip target band).regulate above gripLimit delivered m) :
    ∃ d, s.regulationStep.drive = d ∧ d.path = path ∧ d.lastSlip = some slip ∧ d.lastTarget = some target ∧
      d.lastBand = some band ∧ d.stepDue = s.drive.stepDue := by
  obtain ⟨⟨state, working, hold, hdrive⟩, -⟩ :=
    Drive.regulate_keeps above gripLimit delivered m (s.drive.measure path slip target band)
  refine ⟨_, s.regulationStep_drive, ?_⟩
  rw [State.driveAfter_path, State.driveAfter_lastSlip, State.driveAfter_lastTarget, State.driveAfter_lastBand,
    State.driveAfter_stepDue, h, hdrive]
  exact ⟨rfl, rfl, rfl, rfl, rfl⟩

/-- A step that settles the regulator sends no notice. -/
theorem State.regulationStep_of_settled {d : Drive} (h : s.driveStages = d.settled) :
    (s.regulationStep.drive.state = d.state ∧ s.regulationStep.drive.working = d.working ∧
      s.regulationStep.drive.holdCount = d.holdCount) ∧ s.regulationStep.grip = s.grip := by
  rw [s.regulationStep_drive, h]
  exact ⟨⟨rfl, rfl, rfl⟩, s.regulationStep_grip_of_quiet (congrArg StepResult.breach h)⟩

/-- A step that starts an intervention sends its notice for the band of the budget that it used (R112). -/
theorem State.regulationStep_of_breach {d : Drive} {b : BudgetRecord} (hb : s.grip.latest = some b)
    (h : s.driveStages = ⟨d, true, false⟩) :
    (s.regulationStep.drive.state = d.state ∧ s.regulationStep.drive.working = d.working ∧
      s.regulationStep.drive.holdCount = d.holdCount) ∧ s.regulationStep.grip = (s.breach b.band .drive).grip := by
  rw [s.regulationStep_drive, s.regulationStep_grip, h, State.driveNotice, hb]
  exact ⟨⟨rfl, rfl, rfl⟩, rfl⟩

end

/-- Settles O45: the stages come down to one row of the table of stage 4, taken by the state and the slip. -/
theorem regulationStepFollowsTheSlip : Obligations.RegulationStepFollowsTheSlip := by
  intro s due vf vr b hdue hb hage hfresh hf hr hv hgear hopen _
  let v := s.atDriveStep due
  obtain ⟨hpath, hbus, hcut⟩ := State.outputPath_of_open (s := v) hopen
  have hstages := State.driveStages_of_fresh (s := v) hb hage hf hr hpath hv hgear
    (by simp [v, State.atDriveStep, hfresh])
  rw [slipOf_eq] at hstages
  obtain ⟨d, hd, hdpath, hslip, htarget, hband, hstep⟩ := State.regulationStep_of_measure hstages
  refine ⟨v.regulationStep, exec_regulationStep_of_due hdue, v.regulationStep_now, ?_⟩
  rw [v.regulationStep_now, hd, hdpath]
  refine ⟨hstep, hband, hbus, hcut, ?_⟩
  rw [← hd] at hslip htarget ⊢
  intro slip target m limit cut ends rampsTo
  have hover : target < slip → v.driveStages =
      (v.drive.measure v.outputPath slip target b.band).regulate true limit s.topics.deliveredTorque m := fun h => by
    rw [← decide_eq_true h]
    exact hstages
  have hwithin : slip ≤ target → v.driveStages =
      (v.drive.measure v.outputPath slip target b.band).regulate false limit s.topics.deliveredTorque m := fun h => by
    rw [← decide_eq_false (Nat.not_lt.mpr h)]
    exact hstages
  refine ⟨hslip, htarget, fun hfree => ?_, fun w hw => ⟨fun htrack hle => ?_, fun hstate hlt => ?_,
    fun hstate hlt => ?_, fun hstate hle => ?_, fun hstate hle hcount => ?_, fun hstate hle hcount => ?_,
    fun hstate hle => ?_⟩, s.atDriveStep_onlyChanges due⟩
  · obtain ⟨⟨hstate, hworking, -⟩, hgrip⟩ :=
      State.regulationStep_of_settled (hstages.trans (Drive.regulate_of_free _ _ _ _ hfree))
    exact ⟨hstate, hworking, hgrip⟩
  · obtain ⟨⟨hstate, hworking, -⟩, hgrip⟩ :=
      State.regulationStep_of_settled ((hwithin hle).trans (Drive.regulate_of_tracking _ _ _ htrack hw))
    exact ⟨hstate.trans htrack, hworking, hgrip⟩
  · obtain ⟨hends, hgrip⟩ :=
      State.regulationStep_of_breach (s := v) hb ((hover hlt).trans (Drive.regulate_of_breach _ _ _ hstate hw))
    refine ⟨fun delivered hdelivered => ?_, fun hnone => ?_, hgrip⟩
    · rwa [hdelivered] at hends
    · rwa [hnone] at hends
  · exact State.regulationStep_of_settled ((hover hlt).trans (Drive.regulate_of_again _ _ _ hstate hw))
  · exact State.regulationStep_of_settled ((hwithin hle).trans (Drive.regulate_of_cutting _ _ _ hstate hw))
  · exact State.regulationStep_of_settled ((hwithin hle).trans (Drive.regulate_of_holding _ _ _ hstate hw hcount))
  · exact State.regulationStep_of_settled
      ((hwithin hle).trans (Drive.regulate_of_holding_end _ _ _ hstate hw (Nat.le_of_eq hcount)))
  · exact State.regulationStep_of_settled ((hwithin hle).trans (Drive.regulate_of_ramping _ _ _ hstate hw))

end Sys2Proof.Machine
end

section
/-! The working limit lies within the drive grip limit and rises by the tracking rise at most (R116). -/

namespace Sys2Proof.Machine

theorem cutOnce_le (torque fraction : Nat) : cutOnce torque fraction ≤ torque :=
  Nat.div_le_of_le_mul (by rw [Nat.mul_comm 1024]; exact Nat.mul_le_mul_left _ (Nat.sub_le _ _))

/-- T_work is bounded by a grip limit and, where it held a value before, by that value and a rise (R116). -/
def Drive.boundedBy (d before : Drive) (gripLimit rise : Nat) : Prop :=
  ∀ w, d.working = some w → w ≤ gripLimit ∧ ∀ w₀, before.working = some w₀ → w ≤ w₀ + rise

section

variable {d d' : Drive} {gripLimit rise : Nat}

theorem Drive.boundedBy_of_some {w : Nat} (h : d'.working = some w) (hlimit : w ≤ gripLimit)
    (hrise : ∀ w₀, d.working = some w₀ → w ≤ w₀ + rise) : d'.boundedBy d gripLimit rise := by
  intro x hx
  obtain rfl := Option.some.inj (h.symm.trans hx)
  exact ⟨hlimit, hrise⟩

/-- A limit that starts from the one before is compared with that one alone. -/
theorem Drive.boundedBy_of_held {w w' : Nat} (hw : d.working = some w) (h : d'.working = some w')
    (hlimit : w' ≤ gripLimit) (hrise : w' ≤ w + rise) : d'.boundedBy d gripLimit rise := by
  refine Drive.boundedBy_of_some h hlimit fun w₀ hw₀ => ?_
  obtain rfl := Option.some.inj (hw.symm.trans hw₀)
  exact hrise

theorem Drive.freeze_boundedBy (d : Drive) (path : DrivePath) (gripLimit rise : Nat) :
    (d.freeze path gripLimit).boundedBy d gripLimit rise := by
  intro w hw
  rw [Drive.freeze_eq] at hw
  dsimp only at hw
  split at hw
  · obtain ⟨x, hx, rfl⟩ := Option.map_eq_some_iff.mp hw
    exact Drive.boundedBy_of_held (d' := { d with working := some (min x gripLimit) }) hx rfl (min_le_right _ _)
      ((min_le_left _ _).trans (Nat.le_add_right _ _)) _ rfl
  · cases hw

/-- Every row of the table of stage 4 keeps the bounds: a recovery rises by no more than a tracking step. -/
theorem Drive.Regulates.boundedBy {m : ModeProfile} {r : StepResult} (h : d.Regulates gripLimit m r)
    (hworking : d.working.isSome = d.state.limits) (hrecovery : m.recoveryRise ≤ m.trackingRise) :
    r.drive.boundedBy d gripLimit m.trackingRise := by
  cases h with
  | free hfree =>
    refine Drive.boundedBy_of_some rfl le_rfl fun w₀ hw₀ => ?_
    simp [hw₀, hfree] at hworking
  | track w _ hw => exact Drive.boundedBy_of_held hw rfl (min_le_left _ _) (min_le_right _ _)
  | cut w start breach hw hstart =>
    have hcut := (cutOnce_le start m.cutFraction).trans hstart
    exact Drive.boundedBy_of_held hw rfl (hcut.trans (min_le_right _ _))
      (hcut.trans ((min_le_left _ _).trans (Nat.le_add_right _ _)))
  | hold w count hw =>
    exact Drive.boundedBy_of_held hw rfl (min_le_right _ _) ((min_le_left _ _).trans (Nat.le_add_right _ _))
  | ramp w start hw hstart =>
    exact Drive.boundedBy_of_held hw rfl (min_le_left _ _)
      ((min_le_right _ _).trans (Nat.add_le_add hstart hrecovery))

end

/-- A step that leaves a limit used a budget, and keeps within its grip limit (R116). -/
theorem State.DriveStagesMake.boundedBy {s : State} {r : StepResult} (h : s.DriveStagesMake r)
    (hworking : s.drive.working.isSome = s.drive.state.limits) (hp : s.profile.inRange) {w : Nat}
    (hw : r.drive.working = some w) :
    ∃ b, s.grip.latest = some b ∧ r.drive.boundedBy s.drive b.driveGripLimit s.modeProfile.trackingRise := by
  cases h with
  | inhibited => cases hw
  | passive => cases hw
  | frozen b hb => exact ⟨b, hb, Drive.freeze_boundedBy _ _ _ _⟩
  | regulated b slip target hb =>
    obtain ⟨-, -, -, -, -, -, -, -, -, -, -, -, -, hrecovery, -⟩ := State.modeProfile_inRange hp
    have hrow := Drive.regulate_regulates (d := s.drive.measure s.outputPath slip target b.band)
      (decide (target < slip)) b.driveGripLimit s.topics.deliveredTorque s.modeProfile hworking
    exact ⟨b, hb, hrow.boundedBy hworking hrecovery⟩

/-- Settles O46: whatever the stages make of T_work is bounded, and the counts of the step leave it. -/
theorem workingLimitIsBounded : Obligations.WorkingLimitIsBounded := by
  intro s t w hdue ⟨hworking, _⟩ hp h hw
  obtain ⟨due, hdue⟩ := Option.isSome_iff_exists.mp hdue
  rw [exec_regulationStep_of_due hdue, Host.Outcome.next.injEq] at h
  subst h
  let v := s.atDriveStep due
  rw [v.regulationStep_drive, State.driveAfter_working] at hw
  obtain ⟨b, hb, hbounded⟩ := v.driveStages_make.boundedBy hworking hp hw
  obtain ⟨hlimit, hrise⟩ := hbounded w hw
  exact ⟨⟨b, hb, hlimit⟩, hrise⟩

end Sys2Proof.Machine
end

section
/-! The slot demand of a regulation step (R120). -/

namespace Sys2Proof.Machine

theorem ceilDiv_spec (a : Nat) {b : Nat} (hb : 0 < b) : a ≤ ceilDiv a b * b ∧ ceilDiv a b * b < a + b := by
  unfold ceilDiv
  have hsplit := Nat.div_add_mod' (a + b - 1) b
  have hrest := Nat.mod_lt (a + b - 1) hb
  omega

section

variable {d : Drive} (blindSlots : Nat)

theorem Drive.demand_of_path (h : d.path ≠ .cutLine) (demand : Option Nat) : d.demand demand blindSlots = 0 := if_neg h

/-- The rider demand above T_work, in eighths rounded up. -/
theorem Drive.demand_of_rider (r : Nat) (hpath : d.path = .cutLine) (hlimits : d.state.limits = true) :
    d.demand (some r) blindSlots =
      if d.working.getD 0 < r then ceilDiv (8 * (r - d.working.getD 0)) r else 0 := by
  rw [Drive.demand, if_pos hpath, Drive.demandOnCutLine]
  cases hstate : d.state <;> simp_all [DriveState.limits]

theorem Drive.demand_of_no_rider (hpath : d.path = .cutLine) :
    d.demand none blindSlots = if d.state = .cutting ∨ d.state = .holding then blindSlots else 0 := by
  rw [Drive.demand, if_pos hpath, Drive.demandOnCutLine]
  cases hstate : d.state <;> simp

theorem Drive.demand_of_rider_bounds {r w : Nat} (hpath : d.path = .cutLine) (hlimits : d.state.limits = true)
    (hw : d.working = some w) :
    (r ≤ w → d.demand (some r) blindSlots = 0) ∧
      (w < r → 8 * (r - w) ≤ d.demand (some r) blindSlots * r ∧
        d.demand (some r) blindSlots * r < 8 * (r - w) + r) := by
  rw [Drive.demand_of_rider blindSlots r hpath hlimits, hw, Option.getD_some]
  refine ⟨fun h => if_neg (Nat.not_lt.mpr h), fun h => ?_⟩
  rw [if_pos h]
  exact ceilDiv_spec _ (Nat.zero_lt_of_lt h)

end

theorem ceilDiv_eighths_le (r t : Nat) : ceilDiv (8 * (r - t)) r ≤ 8 := by
  obtain rfl | hr := Nat.eq_zero_or_pos r
  · exact Nat.le_of_eq (Nat.div_zero _) |>.trans (Nat.zero_le 8)
  · have hlt : ceilDiv (8 * (r - t)) r * r < 9 * r := (ceilDiv_spec (8 * (r - t)) hr).2.trans_le (by omega)
    exact Nat.lt_succ_iff.mp (Nat.lt_of_mul_lt_mul_right hlt)

/-- A slot demand is of eight slots at most. -/
theorem Drive.demand_le (d : Drive) (demand : Option Nat) {blindSlots : Nat} (h : blindSlots ≤ 8) :
    d.demand demand blindSlots ≤ 8 := by
  by_cases hpath : d.path = .cutLine
  · cases hlimits : d.state.limits with
    | false => exact (Drive.demand_of_free hlimits demand blindSlots).trans_le (Nat.zero_le 8)
    | true =>
      cases demand with
      | none =>
        rw [Drive.demand_of_no_rider blindSlots hpath]
        split
        · exact h
        · exact Nat.zero_le 8
      | some r =>
        rw [Drive.demand_of_rider blindSlots r hpath hlimits]
        split
        · exact ceilDiv_eighths_le _ _
        · exact Nat.zero_le 8
  · exact (Drive.demand_of_path blindSlots hpath demand).trans_le (Nat.zero_le 8)

theorem State.regulationStep_lastDemand (s : State) :
    s.regulationStep.drive.lastDemand =
      s.regulationStep.drive.demand s.topics.riderDemand s.profile.blindSlots := by
  rw [s.regulationStep_drive]
  rfl

end Sys2Proof.Machine
end

section
/-! A limit frame that is offered waits and is awaited, and the frame of a lamp change offered after it costs it neither
(R10, R11, R148..R150). -/

namespace Sys2Proof.Machine

/-! ### The queue -/

/-- Of a full queue and the frame that joins it, one below another stays, and is below the one that leaves (R11). -/
theorem mem_dropLast_insertFrame {f g x : TxFrame} {q : List TxFrame} (hq : inTopicOrder q)
    (hnew : ∀ y ∈ q, y.topic ≠ f.topic) (hx : x ∈ f :: q) (hg : g ∈ f :: q)
    (hlt : x.topic.number < g.topic.number) :
    x ∈ (insertFrame f q).dropLast ∧
      x.topic.number < ((insertFrame f q).getLast (insertFrame_ne_nil f q)).topic.number := by
  have hsplit : ∀ y ∈ f :: q, y ∈ (insertFrame f q).dropLast ∨
      y = (insertFrame f q).getLast (insertFrame_ne_nil f q) := fun y hy =>
    (List.mem_append.mp ((insertFrame_dropLast_perm f q).mem_iff.mpr hy)).imp_right List.mem_singleton.mp
  have hlast : x.topic.number < ((insertFrame f q).getLast (insertFrame_ne_nil f q)).topic.number := by
    rcases hsplit g hg with hmem | rfl
    · exact hlt.trans ((insertFrame_inTopicOrder hq hnew).dropLast_lt _ g hmem)
    · exact hlt
  exact ⟨(hsplit x hx).resolve_right fun h => absurd (h ▸ hlast) (lt_irrefl _), hlast⟩

/-- Four waiting frames are not all limit frames. -/
theorem exists_above_limits {q : List TxFrame} (hq : inTopicOrder q) (h : 4 ≤ q.length) :
    ∃ g ∈ q, TxTopic.brakeLimit.number < g.topic.number := by
  by_contra hnone
  have hlimit : q.map TxFrame.topic ⊆ [.driveLimit, .brakeLimit] := by
    intro t ht
    obtain ⟨g, hg, rfl⟩ := List.mem_map.mp ht
    have hle : g.topic.number ≤ 41 := Nat.not_lt.mp fun hlt => hnone ⟨g, hg, hlt⟩
    cases htopic : g.topic <;> simp_all [TxTopic.number]
  have hnodup : (q.map TxFrame.topic).Nodup := by
    refine List.pairwise_map.mpr (hq.imp fun {a b} hlt heq => ?_)
    rw [heq] at hlt
    exact lt_irrefl _ hlt
  have hlength := (hnodup.subperm hlimit).length_le
  rw [List.length_map] at hlength
  exact absurd (h.trans hlength) (by decide)

/-- An accepted limit frame waits, and no outcome but that of the frame it replaces is reported of its topic (R10). -/
theorem Link.offer_limit {l : Link} (h : l.inOrder) (ha : l.accepts) {t : TxTopic}
    (ht : t.number ≤ TxTopic.brakeLimit.number) (p : List Byte) :
    (⟨t, l.seqs.get t + 1, p⟩ : TxFrame) ∈ (l.offer t p).1.queue ∧
      ∀ r ∈ (l.offer t p).2, r.topic = t → ∃ g ∈ l.queue, g.topic = t ∧ r.seq = some g.seq := by
  obtain ⟨hq, -⟩ := id h
  by_cases hnew : ∀ g ∈ l.queue, g.topic ≠ t
  · rw [Link.offer_of_new p ha hnew]
    by_cases hroom : l.queue.length ≤ 3
    · rw [Link.enqueue_of_room (l := l.takeSeq t) _ hroom]
      exact ⟨(insertFrame_perm _ _).mem_iff.mpr List.mem_cons_self, fun r hr => nomatch hr⟩
    · obtain ⟨g, hg, habove⟩ := exists_above_limits hq (by omega)
      obtain ⟨hmem, hlast⟩ := mem_dropLast_insertFrame (f := ⟨t, l.seqs.get t + 1, p⟩) hq hnew List.mem_cons_self
        (List.mem_cons_of_mem _ hg) (ht.trans_lt habove)
      rw [Link.enqueue_of_full (l := l.takeSeq t) _ (by simp only [Link.takeSeq]; omega)]
      refine ⟨hmem, fun r hr htopic => ?_⟩
      obtain rfl := List.mem_singleton.mp hr
      exact absurd (congrArg TxTopic.number htopic) hlast.ne'
  · obtain ⟨g, hg, htopic⟩ : ∃ g ∈ l.queue, g.topic = t := by simpa using hnew
    rw [Link.offer_of_waiting p ha (htopic ▸ waitingOf_of_mem hq hg)]
    refine ⟨(replaceFrame_perm hq hg htopic).mem_iff.mpr List.mem_cons_self, fun r hr _ => ?_⟩
    obtain rfl := List.mem_singleton.mp hr
    exact ⟨g, hg, htopic, rfl⟩

/-- A frame that waits keeps its place at the offer of a higher topic (R10, R11). -/
theorem Link.offer_keeps {l : Link} (h : l.inOrder) {t : TxTopic} (p : List Byte) {g : TxFrame} (hg : g ∈ l.queue)
    (hlow : g.topic.number < t.number) : g ∈ (l.offer t p).1.queue := by
  obtain ⟨hq, -⟩ := id h
  cases hs : l.state with
  | inactive => rwa [Link.offer_of_inactive t p hs]
  | muted => rwa [Link.offer_of_muted t p hs]
  | silent | joined =>
    have ha : l.accepts := by simp [Link.accepts, hs]
    by_cases hnew : ∀ y ∈ l.queue, y.topic ≠ t
    · rw [Link.offer_of_new p ha hnew]
      by_cases hroom : l.queue.length ≤ 3
      · rw [Link.enqueue_of_room (l := l.takeSeq t) _ hroom]
        exact (insertFrame_perm _ _).mem_iff.mpr (List.mem_cons_of_mem _ hg)
      · rw [Link.enqueue_of_full (l := l.takeSeq t) _ (by simp only [Link.takeSeq]; omega)]
        exact (mem_dropLast_insertFrame (f := ⟨t, l.seqs.get t + 1, p⟩) hq hnew (List.mem_cons_of_mem _ hg)
          List.mem_cons_self hlow).1
    · obtain ⟨old, hold, htopic⟩ : ∃ y ∈ l.queue, y.topic = t := by simpa using hnew
      rw [Link.offer_of_waiting p ha (htopic ▸ waitingOf_of_mem hq hold)]
      have hother : g ≠ old := fun e => absurd hlow (by rw [e, htopic]; exact lt_irrefl _)
      exact (replaceFrame_perm hq hold htopic).mem_iff.mpr
        (List.mem_cons_of_mem _ ((List.mem_erase_of_ne hother).mpr hg))

/-! ### After the offer -/

/-- A frame of which no outcome is reported stays awaited (R150). -/
theorem Publisher.mem_forget_of_unreported {p : Publisher} {reports : List TxReport} {a : AwaitedLimit}
    (ha : a ∈ p.awaited) (h : ∀ r ∈ reports, r.topic = a.topic → r.seq ≠ some a.seq) :
    a ∈ (p.forget reports).awaited := by
  refine List.mem_filter.mpr ⟨ha, ?_⟩
  simpa using h

/-- From `s` to `t` the limit frames that wait or are awaited still do, and the tracks are as they were. -/
structure State.KeepsLimitFrames (s t : State) : Prop where
  queue : s.link.inOrder → ∀ g ∈ s.link.queue, g.topic.number ≤ TxTopic.brakeLimit.number → g ∈ t.link.queue
  awaited : s.link.inOrder → ∀ a ∈ s.publisher.awaited, a.isLimit → a ∈ t.publisher.awaited
  tracks : s.publisher.onlyAwaits t.publisher

section

variable (s : State)

theorem State.KeepsLimitFrames.refl : s.KeepsLimitFrames s := ⟨fun _ _ hg _ => hg, fun _ _ ha _ => ha, rfl, rfl, rfl⟩

theorem State.offerLtStatus_queue (h : s.link.inOrder) {g : TxFrame} (hg : g ∈ s.link.queue)
    (hlow : g.topic.number ≤ TxTopic.brakeLimit.number) : g ∈ s.offerLtStatus.link.queue := by
  unfold State.offerLtStatus
  split
  · exact hg
  · exact Link.offer_keeps h _ hg (hlow.trans_lt (by decide))

theorem State.refreshLamp_keepsLimitFrames : s.KeepsLimitFrames s.refreshLamp where
  queue h g hg hlow := by
    unfold State.refreshLamp
    split
    · exact hg
    · refine State.offerLtStatus_queue _ ?_ ?_ hlow
      exacts [h, hg]
  awaited := s.refreshLamp_clears.awaited
  tracks := s.refreshLamp_onlyAwaits

theorem State.tellStep_keepsLimitFrames (d : Drive) : s.KeepsLimitFrames (s.tellStep d) :=
  let told := (s.setMonitor (s.monitor.copyStep d s.drive s.generator.cutActive)).refreshLamp_keepsLimitFrames
  ⟨told.queue, told.awaited, told.tracks⟩

theorem State.tellBrakeIfChanged_keepsLimitFrames (b : Brake) : s.KeepsLimitFrames (s.tellBrakeIfChanged b) := by
  unfold State.tellBrakeIfChanged
  split
  · exact .refl s
  · have told := State.refreshLamp_keepsLimitFrames
      (s.setMonitor { s.monitor with frontWheel := s.brake.front.state, rearWheel := s.brake.rear.state })
    exact ⟨told.queue, told.awaited, told.tracks⟩

end

/-! ### A value handed to the publisher -/

/-- From `s` to `t` a limit value has been published: offered and awaited while JOINED, withheld and counted otherwise,
and the consumers' tracks are else as they were (R148..R150). -/
structure State.Publishes (s t : State) (c : Consumer) (v : LimitValue) : Prop where
  awaited : s.link.state = .joined →
    (⟨limitTopic c, s.link.seqs.get (limitTopic c) + 1, v⟩ : AwaitedLimit) ∈ t.publisher.awaited
  queue : s.link.state = .joined →
    (⟨limitTopic c, s.link.seqs.get (limitTopic c) + 1, v.payload⟩ : TxFrame) ∈ t.link.queue
  tracks : ∀ c', t.publisher.track c' =
    if c' = c ∧ s.link.state ≠ .joined then (s.publisher.track c).withhold else s.publisher.track c'

theorem limitTopic_number_le (c : Consumer) : (limitTopic c).number ≤ TxTopic.brakeLimit.number := by
  cases c <;> decide

theorem State.publishLimit_publishes (s : State) (c : Consumer) (v : LimitValue) (h : s.link.inOrder)
    (hseq : ∀ g ∈ s.link.queue, g.topic = limitTopic c → g.seq ≠ s.link.seqs.get (limitTopic c) + 1) :
    s.Publishes (s.publishLimit c v) c v := by
  by_cases hjoined : s.link.state = .joined
  · obtain ⟨hwaits, hreports⟩ := Link.offer_limit h (.inr hjoined) (limitTopic_number_le c) v.payload
    rw [State.publishLimit, if_pos hjoined]
    refine ⟨fun _ => ?_, fun _ => hwaits, fun c' => ?_⟩
    · refine Publisher.mem_forget_of_unreported (List.mem_append_right _ List.mem_cons_self) fun r hr htopic hsame => ?_
      obtain ⟨g, hg, hgtopic, hgseq⟩ := hreports r hr htopic
      exact hseq g hg hgtopic (Option.some.inj (hgseq.symm.trans hsame))
    · rw [if_neg (by simp [hjoined])]
      exact (State.offer_track _ _ _ c').trans (Publisher.await_track _ _ c')
  · rw [State.publishLimit, if_neg hjoined]
    refine ⟨fun hj => absurd hj hjoined, fun hj => absurd hj hjoined, fun c' => ?_⟩
    simp [hjoined]

/-- What is published stays so while limit frames are kept. -/
theorem State.Publishes.keep {s u t : State} {c : Consumer} {v : LimitValue} (h : s.Publishes u c v)
    (hu : u.link.inOrder) (hk : u.KeepsLimitFrames t) : s.Publishes t c v where
  awaited hj := by
    refine hk.awaited hu _ (h.awaited hj) ?_
    cases c
    · exact .inl rfl
    · exact .inr rfl
  queue hj := hk.queue hu _ (h.queue hj) (limitTopic_number_le c)
  tracks c' := (hk.tracks.track_eq c').trans (h.tracks c')

/-- A state that differs from `s` in other parts than the link and the publisher publishes for `s`. -/
theorem State.Publishes.of_frame {s s' t : State} {c : Consumer} {v : LimitValue} (h : s'.Publishes t c v)
    (hlink : s'.link = s.link) (hpublisher : s'.publisher = s.publisher) : s.Publishes t c v := by
  obtain ⟨hawaited, hqueue, htracks⟩ := h
  rw [hlink] at hawaited hqueue htracks
  rw [hpublisher] at htracks
  exact ⟨hawaited, hqueue, htracks⟩

section

variable (s : State) (h : s.link.inOrder)

include h

theorem State.regulationStep_publishes
    (hseq : ∀ g ∈ s.link.queue, g.topic = .driveLimit → g.seq ≠ s.link.seqs.driveLimit + 1) :
    s.Publishes s.regulationStep .engine (.drive s.regulationStep.drive.value) := by
  let u : State := (s.driveNotice s.driveStages).setDrive (s.driveAfter s.driveStages)
  have hlink : u.link = s.link := by simp [u]
  have hpublish := State.publishLimit_publishes u .engine (.drive (s.driveAfter s.driveStages).value)
    (hlink.symm ▸ h) (hlink.symm ▸ hseq)
  have hin := (State.publishLimit_quiet u .engine (.drive (s.driveAfter s.driveStages).value)).link (hlink.symm ▸ h)
  rw [s.regulationStep_drive]
  have hhanded := (State.tellStep_keepsLimitFrames ((u.publishLimit .engine
    (.drive (s.driveAfter s.driveStages).value)).handover (s.driveAfter s.driveStages).path
      (s.driveAfter s.driveStages).lastDemand) s.drive)
  exact (hpublish.keep hin ⟨hhanded.queue, hhanded.awaited, hhanded.tracks⟩).of_frame hlink (by simp [u])

theorem State.brakeStep_publishes
    (hseq : ∀ g ∈ s.link.queue, g.topic = .brakeLimit → g.seq ≠ s.link.seqs.brakeLimit + 1) :
    s.Publishes s.brakeStep .brake (.brakes s.brakeStep.brake.front.value s.brakeStep.brake.rear.value) := by
  let v : LimitValue := .brakes s.brakeAfter.front.value s.brakeAfter.rear.value
  have hpublish := State.publishLimit_publishes (s.setBrake s.brakeAfter) .brake v h hseq
  have hin := (State.publishLimit_quiet (s.setBrake s.brakeAfter) .brake v).link h
  rw [s.brakeStep_brake]
  exact (hpublish.keep hin (State.tellBrakeIfChanged_keepsLimitFrames _ s.brake)).of_frame rfl rfl

end

end Sys2Proof.Machine
end

section
/-! What the two steps hand on: the drive value and the brake values to the publisher, the slot demand to the generator
(R119..R121, R138, R148, R149, R161). -/

namespace Sys2Proof.Machine

/-! ### The values -/

theorem Drive.value_eq (d : Drive) : d.value = if d.state.limits then d.working.getD 65535 else 65535 := by
  unfold Drive.value
  cases d.state <;> rfl

theorem Wheel.value_eq (w : Wheel) : w.value = if w.state.limits then w.published.getD 65535 else 65535 := by
  unfold Wheel.value
  cases w.state <;> rfl

theorem Topics.atRest_iff (t : Topics) : t.atRest = true ↔ ∃ v, t.frontSpeed = some v ∧ v < 100 := by
  unfold Topics.atRest
  cases t.frontSpeed <;> simp

/-! ### The brake step -/

/-- The state in which a brake step acts: its moment has come, and its timer runs again (R129). -/
def State.atBrakeStep (s : State) (due : Nat) : State :=
  (s.until due).setBrake { s.brake with stepDue := some (max s.now due + 50) }

theorem exec_brakeStep_of_due {s : State} {due : Nat} (h : s.brake.stepDue = some due) :
    exec .brakeStep s = .next (s.atBrakeStep due).brakeStep := by
  simp only [exec, execBrakeStep, h]
  rfl

/-- What a step leaves of each wheel is what the other blocks read until the next (R139). -/
theorem State.brakeStep_leaves (s : State) :
    (s.brakeStep.brake.front.lastState = some s.brakeStep.brake.front.state ∧
        s.brakeStep.brake.front.lastPublished = s.brakeStep.brake.front.published) ∧
      s.brakeStep.brake.rear.lastState = some s.brakeStep.brake.rear.state ∧
        s.brakeStep.brake.rear.lastPublished = s.brakeStep.brake.rear.published := by
  rw [s.brakeStep_brake]
  exact ⟨⟨rfl, rfl⟩, rfl, rfl⟩

/-! ### What a publication says of each consumer -/

theorem State.Publishes.of_joined {s t : State} {c : Consumer} {v : LimitValue} (h : s.Publishes t c v)
    (hjoined : s.link.state = .joined) : t.publisher.track c = s.publisher.track c :=
  (h.tracks c).trans (if_neg fun hc => hc.2 hjoined)

theorem State.Publishes.of_apart {s t : State} {c : Consumer} {v : LimitValue} (h : s.Publishes t c v)
    (hapart : s.link.state ≠ .joined) : t.publisher.track c = (s.publisher.track c).withhold :=
  (h.tracks c).trans (if_pos ⟨rfl, hapart⟩)

theorem State.Publishes.of_other {s t : State} {c c' : Consumer} {v : LimitValue} (h : s.Publishes t c v)
    (hother : c' ≠ c) : t.publisher.track c' = s.publisher.track c' :=
  (h.tracks c').trans (if_neg fun hc => hother hc.1)

/-- Settles O47: the values are those of the channels as the step leaves them, and the frames of the step's reports cost
the limit frame neither its place nor its outcome. -/
theorem stepsHandOnTheirValues : Obligations.StepsHandOnTheirValues := by
  constructor
  · intro s t hdue hp hin hseq h
    obtain ⟨due, hdue⟩ := Option.isSome_iff_exists.mp hdue
    rw [exec_regulationStep_of_due hdue, Host.Outcome.next.injEq] at h
    have hpublished : s.Publishes t .engine (.drive t.drive.value) :=
      h ▸ ((s.atDriveStep due).regulationStep_publishes hin hseq).of_frame rfl rfl
    have hdemand : t.drive.lastDemand = t.drive.demand s.topics.riderDemand s.profile.blindSlots :=
      h ▸ (s.atDriveStep due).regulationStep_lastDemand
    have hgenerator : t.generator = s.generator.handover t.drive.path t.drive.lastDemand s.topics.atRest t.now
        s.profile.cutPeriod := by
      rw [← h, State.regulationStep_now]
      exact (s.atDriveStep due).regulationStep_generator
    obtain ⟨hpath, hlatest⟩ := h ▸ (s.atDriveStep due).regulationStep_handed
    obtain ⟨hstate, hworking, hhold⟩ := h ▸ (s.atDriveStep due).regulationStep_leaves
    obtain ⟨-, -, -, -, hblind, -⟩ := hp
    rw [Drive.value_eq] at hpublished
    intro d k value n
    have hk : k = d.demand s.topics.riderDemand s.profile.blindSlots := hdemand
    refine ⟨hk ▸ Drive.demand_le d _ hblind, hpath, hlatest, ⟨s.topics.atRest, Topics.atRest_iff _, hgenerator⟩,
      hstate, hworking, hhold, fun hnone => ?_, fun r w hcut hlimits hr hw => ?_, fun hcut hr => ?_,
      fun hjoined => ⟨hpublished.awaited hjoined, hpublished.queue hjoined, hpublished.of_joined hjoined⟩,
      fun hapart => hpublished.of_apart hapart, hpublished.of_other (c' := .brake) (by decide)⟩
    · rcases hnone with hbus | hfree
      · exact hk.trans (Drive.demand_of_path _ hbus _)
      · exact hk.trans (Drive.demand_of_free hfree _ _)
    · rw [hk, hr]
      exact Drive.demand_of_rider_bounds _ hcut hlimits hw
    · rw [hk, hr, Drive.demand_of_no_rider _ hcut]
      refine ⟨fun hcuts => if_pos hcuts, fun hgrips => if_neg ?_⟩
      rcases hgrips with hgrips | hgrips <;> simp [hgrips]
  · intro s t hdue hin hseq h
    obtain ⟨due, hdue⟩ := Option.isSome_iff_exists.mp hdue
    rw [exec_brakeStep_of_due hdue, Host.Outcome.next.injEq] at h
    have hpublished : s.Publishes t .brake (.brakes t.brake.front.value t.brake.rear.value) :=
      h ▸ ((s.atBrakeStep due).brakeStep_publishes hin hseq).of_frame rfl rfl
    obtain ⟨hfront, hrear⟩ := h ▸ (s.atBrakeStep due).brakeStep_leaves
    rw [Wheel.value_eq, Wheel.value_eq] at hpublished
    refine ⟨fun hjoined => ⟨hpublished.awaited hjoined, hpublished.queue hjoined, hpublished.of_joined hjoined⟩,
      fun hapart => hpublished.of_apart hapart, hpublished.of_other (c' := .engine) (by decide), fun w hw => ?_⟩
    rcases List.mem_pair.mp hw with rfl | rfl
    · exact hfront
    · exact hrear

end Sys2Proof.Machine
end

section
/-! The brake step: the sensing check, what stages 2 to 4 make of a wheel, and what the step leaves of each wheel and of
the other blocks (R129..R137). -/

namespace Sys2Proof.Machine

/-! ### The sensing check -/

/-- No recent budget, no usable BRAKE_STATE, no JOINED link or no listening brake modulator: stage 1 inhibits (R131). -/
def State.brakeClosed (s : State) : Prop :=
  s.grip.latest = none ∨ (∃ b, s.grip.latest = some b ∧ 200 < s.budgetAge b) ∨
    ¬(s.topics.brakeState.freshness = .fresh ∨ s.topics.brakeState.freshness = .late) ∨
    s.link.state ≠ .joined ∨ s.publisher.brake.status = .silent

section

variable {s : State}

theorem State.brakeChannelOpen_iff : s.brakeChannelOpen = true ↔
    (s.topics.brakeState.freshness = .fresh ∨ s.topics.brakeState.freshness = .late) ∧ s.link.state = .joined ∧
      s.publisher.brake.status ≠ .silent := by
  simp [State.brakeChannelOpen, Entry.usable_iff, and_assoc]

theorem State.brakeClosed_iff : s.brakeClosed ↔
    s.grip.latest = none ∨ (∃ b, s.grip.latest = some b ∧ 200 < s.budgetAge b) ∨ ¬s.brakeChannelOpen = true := by
  rw [State.brakeClosed, State.brakeChannelOpen_iff, not_and_or, not_and_or, not_ne_iff]

theorem State.brakeStages_of_closed (h : s.brakeClosed) :
    s.brakeStages = (s.brake.front.release .inhibited, s.brake.rear.release .inhibited) := by
  rcases State.brakeClosed_iff.mp h with hnone | ⟨b, hb, hold⟩ | hshut
  · simp only [State.brakeStages, hnone]
  · simp only [State.brakeStages, hb, hold, true_or, if_true]
  · unfold State.brakeStages
    dsimp only
    split
    · exact if_pos (.inr (by simpa using hshut))
    · rfl

theorem State.brakeStages_of_open {b : BudgetRecord} (h : ¬s.brakeClosed) (hb : s.grip.latest = some b) :
    s.brakeStages =
      (s.brake.front.supervise (s.frontInputs b) s.modeProfile.brakeRise s.modeProfile.brakeFall,
        s.brake.rear.supervise (s.rearInputs b) s.modeProfile.brakeRise s.modeProfile.brakeFall) := by
  obtain ⟨-, hrecent, hopen⟩ := by simpa only [State.brakeClosed_iff, not_or, not_not] using h
  have hage : ¬200 < s.budgetAge b := fun hold => hrecent ⟨b, hb, hold⟩
  simp only [State.brakeStages, hb]
  exact if_neg (by simp [hage, hopen])

end

/-! ### The stages of a wheel -/

theorem demandCounts_of_slight {demand : Option Nat} (h : demand = none ∨ ∃ d, demand = some d ∧ d < 50) :
    demandCounts demand = false := by
  rcases h with rfl | ⟨d, rfl, hd⟩
  · rfl
  · exact decide_eq_false (Nat.not_le.mpr hd)

theorem demandCounts_of_firm {demand : Option Nat} {d : Nat} (h : demand = some d) (hd : 50 ≤ d) :
    demandCounts demand = true := by
  rw [h]
  exact decide_eq_true hd

theorem engagedBy_iff {applied : Option Nat} {limit : Nat} :
    engagedBy applied limit = true ↔ ∃ a, applied = some a ∧ limit ≤ a + 20 := by
  cases applied <;> simp [engagedBy]

/-- The limit of stage 4 before its clamp: the computed one at once where none was published, a rise by the brake rise
at most, a fall by the brake fall at most where the wheel was ENGAGED, and at once elsewhere (R134, R135). -/
def Wheel.slewed (w : Wheel) (computed rise fall : Nat) : Nat :=
  match w.published with
  | none => computed
  | some p =>
    if p < computed then min computed (p + rise)
    else if w.state = .engaged then max computed (p - fall) else computed

section

variable (w : Wheel) (x : WheelInputs) (rise fall : Nat)

/-- Where the limit already stands at the computed one, both slews leave it there. -/
theorem Wheel.slew_fst (computed : Nat) : (w.slew computed rise fall).1 = w.slewed computed rise fall := by
  unfold Wheel.slew Wheel.slewed
  cases w.published with
  | none => rfl
  | some p =>
    dsimp only
    rcases Nat.lt_trichotomy p computed with hbelow | rfl | habove
    · simp only [if_pos hbelow]
    · simp
    · simp only [if_neg habove.not_gt, if_pos habove]
      split <;> rfl

theorem Wheel.limit_published : (w.limit x rise fall).published =
    some (clampNat x.floor brakeMaximum (w.slewed x.computed rise fall)) := by
  rw [← w.slew_fst]
  rfl

theorem Wheel.limit_state : (w.limit x rise fall).state =
    if engagedBy x.applied (clampNat x.floor brakeMaximum (w.slewed x.computed rise fall)) then .engaged
    else .advising := by
  rw [← w.slew_fst]
  rfl

variable {x}

theorem Wheel.supervise_of_slight (h : x.demand = none ∨ ∃ d, x.demand = some d ∧ d < 50) :
    w.supervise x rise fall = w.release .passive := by
  rw [Wheel.supervise, demandCounts_of_slight h]
  rfl

variable {d : Nat} (hdemand : x.demand = some d) (hd : 50 ≤ d)

include hdemand hd

theorem Wheel.supervise_of_abs (h : x.abs = some true) : w.supervise x rise fall = w.yield x := by
  rw [Wheel.supervise, demandCounts_of_firm hdemand hd]
  exact if_pos h

theorem Wheel.supervise_of_no_abs (h : x.abs ≠ some true) : w.supervise x rise fall = w.limit x rise fall := by
  rw [Wheel.supervise, demandCounts_of_firm hdemand hd]
  exact if_neg h

end

/-! ### A wheel after its stages -/

/-- `w'` is the wheel `w` after stages 2 to 4 over the inputs `x`: PASSIVE, YIELDED or limited (R132..R137), with the
ABS memory and its counts as they were. -/
structure Wheel.SupervisedTo (w : Wheel) (x : WheelInputs) (rise fall : Nat) (w' : Wheel) : Prop where
  passive : (x.demand = none ∨ ∃ d, x.demand = some d ∧ d < 50) →
    w'.state = .passive ∧ w'.published = none ∧ w'.lastComputed = w.lastComputed ∧ w'.lastApplied = w.lastApplied
  yielded : ∀ d, x.demand = some d → 50 ≤ d → x.abs = some true →
    w'.state = .yielded ∧
      w'.published = some (clampNat x.floor brakeMaximum (w.published.getD x.computed)) ∧
      w'.lastComputed = w.lastComputed
  limited : ∀ d, x.demand = some d → 50 ≤ d → x.abs ≠ some true →
    w'.published = some (clampNat x.floor brakeMaximum (w.slewed x.computed rise fall)) ∧
      w'.lastComputed = some x.computed ∧ w'.lastApplied = x.applied ∧
      w'.state =
        if engagedBy x.applied (clampNat x.floor brakeMaximum (w.slewed x.computed rise fall)) then .engaged
        else .advising
  onsets : w'.absMemory = w.absMemory ∧ w'.absOnsets = w.absOnsets ∧ w'.breachNotices = w.breachNotices

section

variable {w w' : Wheel} {x : WheelInputs} {rise fall : Nat}

/-- Onsets are the matter of the arrivals alone (R140). -/
theorem Wheel.supervise_onsets (w : Wheel) (x : WheelInputs) (rise fall : Nat) :
    (w.supervise x rise fall).absMemory = w.absMemory ∧ (w.supervise x rise fall).absOnsets = w.absOnsets ∧
      (w.supervise x rise fall).breachNotices = w.breachNotices := by
  unfold Wheel.supervise
  split
  · exact ⟨rfl, rfl, rfl⟩
  · split <;> exact ⟨rfl, rfl, rfl⟩

theorem Wheel.supervise_supervisedTo (w : Wheel) (x : WheelInputs) (rise fall : Nat) :
    w.SupervisedTo x rise fall (w.supervise x rise fall) where
  passive h := by
    rw [w.supervise_of_slight rise fall h]
    exact ⟨rfl, rfl, rfl, rfl⟩
  yielded d hdemand hd habs := by
    rw [w.supervise_of_abs rise fall hdemand hd habs]
    exact ⟨rfl, rfl, rfl⟩
  limited d hdemand hd habs := by
    rw [w.supervise_of_no_abs rise fall hdemand hd habs]
    exact ⟨w.limit_published x rise fall, rfl, rfl, w.limit_state x rise fall⟩
  onsets := w.supervise_onsets x rise fall

/-- The counts of the step leave all of it (R137, R147). -/
theorem Wheel.SupervisedTo.countStep (h : w.SupervisedTo x rise fall w') (before : Wheel) :
    w.SupervisedTo x rise fall (w'.countStep before) :=
  ⟨h.passive, h.yielded, h.limited, h.onsets⟩

end

theorem engagement_eq_engaged {applied : Option Nat} {limit a : Nat} (ha : applied = some a) (h : limit ≤ a + 20) :
    (if engagedBy applied limit then WheelState.engaged else .advising) = .engaged :=
  if_pos (engagedBy_iff.mpr ⟨a, ha, h⟩)

theorem engagement_eq_advising {applied : Option Nat} {limit : Nat} (h : ∀ a, applied = some a → a + 20 < limit) :
    (if engagedBy applied limit then WheelState.engaged else .advising) = .advising :=
  if_neg fun hengaged => by
    obtain ⟨a, ha, hle⟩ := engagedBy_iff.mp hengaged
    exact (h a ha).not_ge hle

/-! ### The whole step -/

section

variable (s : State)

@[simp] theorem State.brakeAfter_front : s.brakeAfter.front = s.brakeStages.1.countStep s.brake.front := rfl
@[simp] theorem State.brakeAfter_rear : s.brakeAfter.rear = s.brakeStages.2.countStep s.brake.rear := rfl

theorem State.brakeStep_front_of_closed (h : s.brakeClosed) :
    s.brakeStep.brake.front = (s.brake.front.release .inhibited).countStep s.brake.front := by
  rw [s.brakeStep_brake, s.brakeAfter_front, State.brakeStages_of_closed h]

theorem State.brakeStep_rear_of_closed (h : s.brakeClosed) :
    s.brakeStep.brake.rear = (s.brake.rear.release .inhibited).countStep s.brake.rear := by
  rw [s.brakeStep_brake, s.brakeAfter_rear, State.brakeStages_of_closed h]

theorem State.brakeStep_front_of_open {b : BudgetRecord} (h : ¬s.brakeClosed) (hb : s.grip.latest = some b) :
    s.brake.front.SupervisedTo (s.frontInputs b) s.modeProfile.brakeRise s.modeProfile.brakeFall
      s.brakeStep.brake.front := by
  rw [s.brakeStep_brake, s.brakeAfter_front, State.brakeStages_of_open h hb]
  exact (Wheel.supervise_supervisedTo _ _ _ _).countStep _

theorem State.brakeStep_rear_of_open {b : BudgetRecord} (h : ¬s.brakeClosed) (hb : s.grip.latest = some b) :
    s.brake.rear.SupervisedTo (s.rearInputs b) s.modeProfile.brakeRise s.modeProfile.brakeFall
      s.brakeStep.brake.rear := by
  rw [s.brakeStep_brake, s.brakeAfter_rear, State.brakeStages_of_open h hb]
  exact (Wheel.supervise_supervisedTo _ _ _ _).countStep _

/-- The blocks that a brake step can reach. -/
theorem State.atBrakeStep_onlyChanges (due : Nat) :
    s.onlyChanges (s.atBrakeStep due).brakeStep [.now, .brake, .link, .publisher, .monitor] := by
  intro p hp
  cases p <;> simp_all [State.agreesOn, State.atBrakeStep]

end

/-- Settles O49: the sensing check decides between the release of both wheels and the stages of each, which the counts
of the step leave as they are. -/
theorem brakeStepSupervisesEachWheel : Obligations.BrakeStepSupervisesEachWheel := by
  intro s due hdue u m closed wheel
  let v := s.atBrakeStep due
  have hwheel : ∀ {w w' x}, w.SupervisedTo x m.brakeRise m.brakeFall w' →
      wheel w w' x.demand x.applied x.abs x.computed x.floor := by
    intro w w' x h
    refine ⟨h.passive, h.yielded, fun d hdemand hd habs => ?_, h.onsets⟩
    obtain ⟨hpublished, hcomputed, hlast, hstate⟩ := h.limited d hdemand hd habs
    refine ⟨hpublished, hcomputed, hlast, fun a ha hle => hstate.trans (engagement_eq_engaged ha hle),
      fun a ha hlt => hstate.trans (engagement_eq_advising fun a' ha' => ?_),
      fun hnone => hstate.trans (engagement_eq_advising fun a ha => nomatch hnone.symm.trans ha)⟩
    exact Option.some.inj (ha.symm.trans ha') ▸ hlt
  refine ⟨v.brakeStep, exec_brakeStep_of_due hdue, v.brakeStep_now, congrArg Brake.stepDue v.brakeStep_brake,
    fun hclosed => ?_, fun b hopen hb => ?_, s.atBrakeStep_onlyChanges due⟩
  · rw [v.brakeStep_front_of_closed hclosed, v.brakeStep_rear_of_closed hclosed]
    exact ⟨rfl, rfl, rfl, rfl⟩
  · exact ⟨hwheel (v.brakeStep_front_of_open hopen hb), hwheel (v.brakeStep_rear_of_open hopen hb)⟩

end Sys2Proof.Machine
end

section
/-! A BRAKE_STATE arrival at the supervisor: the onset of each wheel, its counts and its breach notice (R140, R141). -/

namespace Sys2Proof.Machine

/-! ### Onsets and notices -/

/-- The flag is set over a clear memory (R140). -/
def Wheel.Begins (w : Wheel) (abs : Option Bool) : Prop := abs = some true ∧ w.absMemory = false

theorem Wheel.isOnset_iff (w : Wheel) (abs : Option Bool) : isOnset abs w.absMemory = true ↔ w.Begins abs := by
  simp [isOnset, Wheel.Begins]

/-- A budget record of band 2 or more exists (R141). -/
def GripUnit.Notices (g : GripUnit) : Prop := ∃ b, g.latest = some b ∧ 2 ≤ b.band

theorem onsetBand_of_two_le {b : BudgetRecord} (h : 2 ≤ b.band) : onsetBand (some b) = some b.band := if_pos h

theorem GripUnit.onsetBand_of_quiet {g : GripUnit} (h : ¬g.Notices) : onsetBand g.latest = none := by
  cases hb : g.latest with
  | none => rfl
  | some b => exact if_neg fun hband => h ⟨b, hb, hband⟩

theorem GripUnit.onsetBand_isSome_iff (g : GripUnit) : (onsetBand g.latest).isSome = true ↔ g.Notices := by
  refine ⟨fun h => ?_, fun ⟨b, hb, hband⟩ => ?_⟩
  · by_contra hquiet
    simp [GripUnit.onsetBand_of_quiet hquiet] at h
  · rw [hb, onsetBand_of_two_le hband]
    rfl

section

variable {s : State} {w : Wheel} {abs : Option Bool}

theorem State.onsetNotice_of_onset {b : BudgetRecord} (hb : s.grip.latest = some b) (hband : 2 ≤ b.band)
    (h : w.Begins abs) : s.onsetNotice abs w.absMemory = s.breach b.band .brake := by
  rw [State.onsetNotice, hb, onsetBand_of_two_le hband]
  exact if_pos ((w.isOnset_iff abs).mpr h)

theorem State.onsetNotice_of_no_onset (h : ¬w.Begins abs) : s.onsetNotice abs w.absMemory = s := by
  unfold State.onsetNotice
  split
  · exact if_neg fun honset => h ((w.isOnset_iff abs).mp honset)
  · rfl

theorem State.onsetNotice_of_quiet (h : ¬s.grip.Notices) : s.onsetNotice abs w.absMemory = s := by
  rw [State.onsetNotice, GripUnit.onsetBand_of_quiet h]

end

/-! ### A wheel after an arrival -/

section

variable (w : Wheel) (abs : Option Bool) {noticed : Bool}

theorem Wheel.arrival_absOnsets_of_onset (h : w.Begins abs) : (w.arrival abs noticed).absOnsets = bump w.absOnsets :=
  if_pos ((w.isOnset_iff abs).mpr h)

theorem Wheel.arrival_absOnsets_of_no_onset (h : ¬w.Begins abs) : (w.arrival abs noticed).absOnsets = w.absOnsets :=
  if_neg fun honset => h ((w.isOnset_iff abs).mp honset)

theorem Wheel.arrival_breachNotices_of_notice (h : w.Begins abs) (hnoticed : noticed = true) :
    (w.arrival abs noticed).breachNotices = bump w.breachNotices :=
  if_pos (Bool.and_eq_true_iff.mpr ⟨(w.isOnset_iff abs).mpr h, hnoticed⟩)

theorem Wheel.arrival_breachNotices_of_no_notice (h : ¬(w.Begins abs ∧ noticed = true)) :
    (w.arrival abs noticed).breachNotices = w.breachNotices :=
  if_neg fun hnotice =>
    h ((Bool.and_eq_true_iff.mp hnotice).imp_left (w.isOnset_iff abs).mp)

end

/-! ### The arrival -/

section

variable (s : State)

theorem State.absArrival_front : s.absArrival.brake.front =
    s.brake.front.arrival s.topics.frontAbs (onsetBand s.grip.latest).isSome := rfl

theorem State.absArrival_rear : s.absArrival.brake.rear =
    s.brake.rear.arrival s.topics.rearAbs (onsetBand s.grip.latest).isSome := rfl

theorem State.absArrival_grip : s.absArrival.grip =
    ((s.onsetNotice s.topics.frontAbs s.brake.front.absMemory).onsetNotice s.topics.rearAbs
      s.brake.rear.absMemory).grip := rfl

theorem State.absArrival_onlyChanges : s.onlyChanges s.absArrival [.brake, .grip] := by
  intro p hp
  cases p <;> simp_all [State.agreesOn]

end

/-- Settles O50: each wheel counts its own onset, and the notices reach the Grip Budget Unit one after the other, the
second at the band that the first left standing. -/
theorem absOnsetsSendNotices : Obligations.AbsOnsetsSendNotices := by
  intro s t begins notices after
  have hafter : ∀ w abs, after w (w.arrival abs (onsetBand s.grip.latest).isSome) abs := fun w abs =>
    have hnotices := s.grip.onsetBand_isSome_iff
    ⟨rfl, rfl, rfl,
      fun h => ⟨w.arrival_absOnsets_of_onset abs h,
        fun hn => w.arrival_breachNotices_of_notice abs h (hnotices.mpr hn)⟩,
      w.arrival_absOnsets_of_no_onset abs,
      fun h => w.arrival_breachNotices_of_no_notice abs fun hn => h (hn.imp_right hnotices.mp)⟩
  refine ⟨hafter _ _, hafter _ _, ?_, fun b hb hband => ⟨fun hf hr => ?_, fun hf hr => ?_, fun hf hr => ?_⟩,
    s.absArrival_onlyChanges⟩
  · rintro (hquiet | ⟨hf, hr⟩)
    · rw [s.absArrival_grip, State.onsetNotice_of_quiet hquiet, State.onsetNotice_of_quiet hquiet]
    · rw [s.absArrival_grip, State.onsetNotice_of_no_onset hf, State.onsetNotice_of_no_onset hr]
  · have hlatest : (s.breach b.band .brake).grip.latest = some b := hb
    rw [s.absArrival_grip, State.onsetNotice_of_onset hb hband hf, State.onsetNotice_of_onset hlatest hband hr]
  · rw [s.absArrival_grip, State.onsetNotice_of_onset hb hband hf, State.onsetNotice_of_no_onset hr]
  · rw [s.absArrival_grip, State.onsetNotice_of_no_onset hf, State.onsetNotice_of_onset hb hband hr]

end Sys2Proof.Machine
end

section
/-! The cut pattern generator: what a handover makes of it in each of its states, and what a started, lengthened or
ended period holds (R160..R167). -/

namespace Sys2Proof.Machine

/-- The generator with the path and the demand of a handover placed, which comes first (R161). -/
def Generator.placed (g : Generator) (path : DrivePath) (k : Nat) : Generator :=
  { g with lastPath := path, latestDemand := k }

section

variable {g : Generator} (path : DrivePath) (k : Nat) (atRest : Bool) (now periodMs : Nat)

theorem Generator.handover_of_idle (h : g.run = none) :
    g.handover path k atRest now periodMs =
      if path = .cutLine ∧ 1 ≤ k then (g.placed path k).start .regulation k now periodMs else g.placed path k := by
  simp [Generator.handover, Generator.handoverToTest, Generator.takeHandover, Generator.placed, h]

theorem Generator.handover_of_regulation {slots start : Nat} (h : g.run = some ⟨.regulation, slots, start⟩) :
    g.handover path k atRest now periodMs =
      if path = .cutLine then
        if slots < k then (g.placed path k).extend ⟨.regulation, slots, start⟩ k now periodMs else g.placed path k
      else (g.placed path k).idle := by
  simp [Generator.handover, Generator.handoverToTest, Generator.takeHandover, Generator.placed, h]

/-- A test that goes on leaves the demand waiting; a cancelled one leaves the generator IDLE to the handover (R167). -/
theorem Generator.handover_of_test {slots start : Nat} (h : g.run = some ⟨.test, slots, start⟩) :
    g.handover path k atRest now periodMs =
      if path = .cutLine then
        if 1 ≤ k then (g.placed path k).cancelTest.start .regulation k now periodMs else (g.placed path k).cancelTest
      else if atRest then g.placed path k else (g.placed path k).cancelTest := by
  by_cases hpath : path = .cutLine
  · simp [Generator.handover, Generator.handoverToTest, Generator.takeHandover, Generator.placed, h, hpath,
      Generator.cancelTest, Generator.idle]
  · cases atRest
    all_goals
      simp [Generator.handover, Generator.handoverToTest, Generator.takeHandover, Generator.placed, h, hpath,
        Generator.cancelTest, Generator.idle]

end

section

variable (g : Generator) (r : CutRun) (k now periodMs : Nat)

theorem Generator.extend_run : (g.extend r k now periodMs).run = some { r with slots := k } := by
  unfold Generator.extend
  dsimp only
  repeat' split
  all_goals rfl

/-- A lengthened period has the line asserted to its new end, unless it is released and the end is past (R162). -/
theorem Generator.extend_of_ahead (h : g.asserted = true ∨ now < r.startedAt + slotTime periodMs k) :
    g.extend r k now periodMs =
      { g with
        run := some { r with slots := k }
        assertionEnds := some (r.startedAt + slotTime periodMs k)
        asserted := true } := by
  unfold Generator.extend
  by_cases ha : g.asserted = true
  · simp [ha]
  · simp [ha, h.resolve_left ha]

theorem Generator.extend_of_past (ha : g.asserted = false) (h : r.startedAt + slotTime periodMs k ≤ now) :
    g.extend r k now periodMs = { g with run := some { r with slots := k } } := by
  simp [Generator.extend, ha, Nat.not_lt.mpr h]

end

/-- Settles O55: the generator is IDLE, regulates or tests, and each of the three has its equation. -/
theorem handoversDriveTheCutLine : Obligations.HandoversDriveTheCutLine := by
  intro g path k now period atRest
  obtain ⟨hpath, hdemand⟩ := g.handover_keeps path k atRest now period
  dsimp only
  refine ⟨hpath, hdemand, fun hrun hcut hk => ?_, fun hrun hno => ?_, fun slots start hrun => ?_,
    fun slots start hrun => ?_⟩
  · rw [Generator.handover_of_idle path k atRest now period hrun, if_pos ⟨hcut, hk⟩]
    exact ⟨rfl, ⟨rfl, rfl⟩, rfl⟩
  · rw [Generator.handover_of_idle path k atRest now period hrun]
    refine if_neg fun ⟨hcut, hk⟩ => hno.elim (absurd hcut) fun hzero => ?_
    omega
  · rw [Generator.handover_of_regulation path k atRest now period hrun]
    refine ⟨fun hbus => ?_, fun hcut hk => ?_, fun hcut hk => ?_⟩
    · rw [if_neg hbus]
      exact ⟨rfl, rfl, rfl⟩
    · rw [if_pos hcut, if_neg (Nat.not_lt.mpr hk)]
      rfl
    · rw [if_pos hcut, if_pos hk]
      refine ⟨Generator.extend_run _ _ _ _ _, fun hahead => ?_, fun hreleased hend => ?_⟩
      · rw [Generator.extend_of_ahead (g.placed path k) ⟨.regulation, slots, start⟩ k now period hahead]
        exact ⟨rfl, rfl⟩
      · rw [Generator.extend_of_past (g.placed path k) ⟨.regulation, slots, start⟩ k now period hreleased hend]
        exact ⟨hreleased, rfl⟩
  · rw [Generator.handover_of_test path k atRest now period hrun]
    refine ⟨fun hbus hrest => ?_, fun hbus hrest => ?_, fun hcut => ?_⟩
    · rw [if_neg hbus, if_pos hrest]
      rfl
    · rw [if_neg hbus, if_neg (by simp [hrest])]
      exact ⟨⟨rfl, rfl, rfl⟩, rfl⟩
    · rw [if_pos hcut]
      refine ⟨?_, fun hzero => ?_, fun hk => ?_⟩
      · split <;> rfl
      · rw [if_neg (by omega)]
        exact ⟨rfl, rfl, rfl⟩
      · rw [if_pos hk]
        exact ⟨rfl, rfl, rfl⟩

end Sys2Proof.Machine
end

section
/-! The expiries of the generator's two timers, and its cut test (R163, R166, R167, R190). -/

namespace Sys2Proof.Machine

section

variable {g : Generator} (now periodMs : Nat)

theorem Generator.periodEnd_of_regulation {slots start : Nat} (h : g.run = some ⟨.regulation, slots, start⟩)
    (hk : 1 ≤ g.latestDemand) :
    g.periodEnd now periodMs = g.start .regulation g.latestDemand now periodMs := by
  simp [Generator.periodEnd, h, hk]

theorem Generator.periodEnd_of_end {purpose : CutPurpose} {slots start : Nat}
    (h : g.run = some ⟨purpose, slots, start⟩) (hend : purpose = .test ∨ g.latestDemand = 0) :
    g.periodEnd now periodMs = g.idle := by
  rcases hend with rfl | hzero
  · simp [Generator.periodEnd, h]
  · cases purpose <;> simp [Generator.periodEnd, h, hzero]

theorem Generator.periodEnd_keeps (g : Generator) :
    (g.periodEnd now periodMs).lastPath = g.lastPath ∧ (g.periodEnd now periodMs).latestDemand = g.latestDemand := by
  unfold Generator.periodEnd
  repeat' split
  all_goals exact ⟨rfl, rfl⟩

/-- A test runs at rest alone: no regulation period, another path than CUT_LINE, a standing front wheel (R166). -/
theorem Generator.mayTest_iff (g : Generator) (atRest : Bool) :
    g.mayTest atRest = true ↔ g.cutActive = false ∧ g.lastPath ≠ .cutLine ∧ atRest = true := by
  simp [Generator.mayTest, and_assoc]

theorem Generator.cutActive_eq_false_iff (g : Generator) :
    g.cutActive = false ↔ ∀ slots start, g.run ≠ some ⟨.regulation, slots, start⟩ := by
  unfold Generator.cutActive
  split
  · next slots start h => simp [h]
  · next h => simpa using h

end

section

variable (s : State)

theorem State.tellCut_regulationCut (b : Bool) : (s.tellCut b).monitor.regulationCut = b := by
  unfold State.tellCut
  split
  · assumption
  · simp

theorem State.tellCut_faults (b : Bool) : (s.tellCut b).monitor.faults = s.monitor.faults := by
  unfold State.tellCut
  split
  · rfl
  · simp

theorem State.tellCut_onlyAwaits (b : Bool) : s.publisher.onlyAwaits (s.tellCut b).publisher := by
  unfold State.tellCut
  split
  · exact Publisher.onlyAwaits_refl _
  · exact State.refreshLamp_onlyAwaits (s.setMonitor _)

/-- The generator at the end of a running period, its report to the Monitor apart (R163). -/
def State.atPeriodEnd (r : CutRun) : State :=
  (s.until (r.ends s.profile.cutPeriod)).setGenerator
    (s.generator.periodEnd (max s.now (r.ends s.profile.cutPeriod)) s.profile.cutPeriod)

theorem exec_cutPeriodExpiry_of_running {r : CutRun} (h : s.generator.run = some r) :
    exec .cutPeriodExpiry s = .next ((s.atPeriodEnd r).tellCut (s.atPeriodEnd r).generator.cutActive) := by
  simp only [exec, execCutPeriodExpiry, h]
  rfl

theorem exec_assertionEndExpiry_of_running {d : Nat} (h : s.generator.assertionEnds = some d) :
    exec .assertionEndExpiry s = .next ((s.until d).setGenerator s.generator.assertionEnd) := by
  simp only [exec, execAssertionEndExpiry, h]

theorem State.tellCut_onlyChanges (b : Bool) : s.onlyChanges (s.tellCut b) [.link, .publisher, .monitor] := by
  intro p hp
  cases p <;> simp_all [State.agreesOn]

theorem State.setGenerator_onlyChanges (g : Generator) : s.onlyChanges (s.setGenerator g) [.generator] := by
  intro p hp
  cases p <;> simp_all [State.agreesOn]

theorem State.atPeriodEnd_onlyChanges (r : CutRun) : s.onlyChanges (s.atPeriodEnd r) [.now, .generator] := by
  intro p hp
  cases p <;> simp_all [State.agreesOn, State.atPeriodEnd]

end

/-- Settles O56: the line is released at once; the period's end starts the next one or makes the generator IDLE, and
the Monitor hears which. -/
theorem cutPeriodsRunOut : Obligations.CutPeriodsRunOut := by
  intro s
  refine ⟨fun d hd => exec_assertionEndExpiry_of_running s hd, fun purpose slots start hrun => ?_⟩
  let r : CutRun := ⟨purpose, slots, start⟩
  let u : State := s.atPeriodEnd r
  have hgen : (u.tellCut u.generator.cutActive).generator =
      s.generator.periodEnd (max s.now (r.ends s.profile.cutPeriod)) s.profile.cutPeriod := State.tellCut_generator u _
  have hnow : (u.tellCut u.generator.cutActive).now = max s.now (start + s.profile.cutPeriod * 10) :=
    State.tellCut_now u _
  have hcut : ∀ g, u.generator = g → (u.tellCut u.generator.cutActive).monitor.regulationCut = g.cutActive :=
    fun g hg => (State.tellCut_regulationCut u _).trans (congrArg Generator.cutActive hg)
  obtain ⟨hpath, hdemand⟩ := Generator.periodEnd_keeps (max s.now (r.ends s.profile.cutPeriod)) s.profile.cutPeriod
    s.generator
  refine ⟨u.tellCut u.generator.cutActive, exec_cutPeriodExpiry_of_running s hrun, hnow, hgen ▸ hpath,
    hgen ▸ hdemand, fun hpurpose hk => ?_, fun hend => ?_, State.tellCut_faults u _, State.tellCut_onlyOffers u _,
    State.tellCut_onlyAwaits u _, ?_⟩
  · subst hpurpose
    have hstart := Generator.periodEnd_of_regulation (max s.now (r.ends s.profile.cutPeriod)) s.profile.cutPeriod
      hrun hk
    rw [hgen, hnow, hcut _ hstart, hstart]
    exact ⟨rfl, rfl, rfl, rfl, rfl⟩
  · have hidle := Generator.periodEnd_of_end (max s.now (r.ends s.profile.cutPeriod)) s.profile.cutPeriod hrun hend
    rw [hgen, hcut _ hidle, hidle]
    exact ⟨rfl, rfl, rfl, rfl⟩
  · exact State.onlyChanges_trans (State.onlyChanges_mono (s.atPeriodEnd_onlyChanges r) (by decide))
      (State.onlyChanges_mono (u.tellCut_onlyChanges _) (by decide))

section

variable (s : State) (r : Request)

theorem State.serveTest_of_taken (h : s.generator.mayTest s.topics.atRest = true) :
    s.serveTest r =
      (s.setGenerator (s.generator.start .test (testSlots r.data.toNat) s.now s.profile.cutPeriod)).answer r .ok [] :=
  if_pos h

theorem State.serveTest_of_refused (h : ¬s.generator.mayTest s.topics.atRest = true) :
    s.serveTest r = s.answer r .notAtRest [] := if_neg h

theorem testSlots_eq (n : Nat) : testSlots n = if n = 0 then 1 else if 8 < n then 8 else n := by
  simp only [testSlots, clampNat, Nat.lt_one_iff]

/-- The blocks that the reply to a request reaches (R185). -/
theorem State.answer_onlyChanges (status : ServiceStatus) (data : List Byte) :
    s.onlyChanges (s.answer r status data) [.link, .publisher, .responder] := by
  intro p hp
  cases p <;> simp_all [State.agreesOn]

end

/-- Settles O57: the test is taken or refused by the generator's own condition, and answered in either case. -/
theorem cutTestsNeedAStandingWheel : Obligations.CutTestsNeedAStandingWheel := by
  intro s r t taken k
  have htaken : taken ↔ s.generator.mayTest s.topics.atRest = true := by
    rw [Generator.mayTest_iff, Generator.cutActive_eq_false_iff, Topics.atRest_iff]
  refine ⟨fun h => ?_, fun h => ?_, ?_⟩
  · have ht : t = _ := s.serveTest_of_taken r (htaken.mp h)
    rw [testSlots_eq] at ht
    rw [ht]
    exact ⟨rfl, rfl⟩
  · have ht : t = _ := s.serveTest_of_refused r (mt htaken.mpr h)
    rw [ht]
    exact ⟨rfl, rfl⟩
  · by_cases h : s.generator.mayTest s.topics.atRest = true
    · have ht : t = _ := s.serveTest_of_taken r h
      rw [ht]
      exact State.onlyChanges_trans (State.onlyChanges_mono (s.setGenerator_onlyChanges _) (by decide))
        (State.onlyChanges_mono (State.answer_onlyChanges _ r _ _) (by decide))
    · have ht : t = _ := s.serveTest_of_refused r h
      rw [ht]
      exact State.onlyChanges_mono (s.answer_onlyChanges r _ _) (by decide)

end Sys2Proof.Machine
end

section
/-! The generator at every step: the line is asserted by a running period alone, and a regulation period runs on the
regulator's own path CUT_LINE (R160, R161, R164, R166). Both invariants follow from what one command can do to the
generator, which is said once. -/

namespace Sys2Proof.Machine

/-! ### The operations keep the generator in order -/

section

variable {g : Generator}

/-- The generator reads as in order by four of its parts. -/
theorem Generator.inOrder_of {g' : Generator} (hrun : g'.run = g.run) (hasserted : g'.asserted = g.asserted)
    (hends : g'.assertionEnds = g.assertionEnds) (hdemand : g'.latestDemand ≤ 8) (h : g.inOrder) : g'.inOrder := by
  obtain ⟨hline, hslots, -⟩ := h
  refine ⟨?_, hrun ▸ hslots, hdemand⟩
  rwa [Generator.lineSafe, hrun, hasserted, hends]

theorem Generator.placed_inOrder (path : DrivePath) {k : Nat} (hk : k ≤ 8) (h : g.inOrder) :
    (g.placed path k).inOrder := Generator.inOrder_of (g := g) rfl rfl rfl hk h

/-- A period asserts the line with its end, for the slots given. -/
theorem Generator.start_inOrder (purpose : CutPurpose) {k : Nat} (now periodMs : Nat) (hk : within 1 8 k)
    (hdemand : g.latestDemand ≤ 8) : (g.start purpose k now periodMs).inOrder := by
  refine ⟨⟨fun _ => rfl, rfl⟩, fun r hr => ?_, hdemand⟩
  obtain rfl := Option.some.inj hr
  exact hk

theorem Generator.idle_inOrder (h : g.latestDemand ≤ 8) : g.idle.inOrder :=
  ⟨⟨fun ha => absurd ha Bool.false_ne_true, rfl⟩, (fun _ hr => nomatch hr), h⟩

theorem Generator.cancelTest_inOrder (h : g.latestDemand ≤ 8) : g.cancelTest.inOrder :=
  Generator.inOrder_of rfl rfl rfl h (Generator.idle_inOrder h)

theorem Generator.extend_inOrder (r : CutRun) {k : Nat} (now periodMs : Nat) (hk : within 1 8 k) (h : g.inOrder) :
    (g.extend r k now periodMs).inOrder := by
  obtain ⟨⟨-, hends⟩, -, hdemand⟩ := h
  have hslots : ∀ x, (g.extend r k now periodMs).run = some x → within 1 8 x.slots := by
    intro x hx
    rw [Generator.extend_run] at hx
    obtain rfl := Option.some.inj hx
    exact hk
  by_cases hahead : g.asserted = true ∨ now < r.startedAt + slotTime periodMs k
  · rw [Generator.extend_of_ahead _ _ _ _ _ hahead] at hslots ⊢
    exact ⟨⟨fun _ => rfl, rfl⟩, hslots, hdemand⟩
  · obtain ⟨hreleased, hpast⟩ := not_or.mp hahead
    rw [Generator.extend_of_past _ _ _ _ _ (Bool.not_eq_true _ ▸ hreleased) (Nat.not_lt.mp hpast)] at hslots ⊢
    exact ⟨⟨fun _ => rfl, hends⟩, hslots, hdemand⟩

theorem Generator.handover_inOrder (path : DrivePath) {k : Nat} (atRest : Bool) (now periodMs : Nat) (hk : k ≤ 8)
    (h : g.inOrder) : (g.handover path k atRest now periodMs).inOrder := by
  have hplaced := Generator.placed_inOrder path hk h
  cases hrun : g.run with
  | none =>
    rw [Generator.handover_of_idle _ _ _ _ _ hrun]
    split
    · next hstart => exact Generator.start_inOrder _ _ _ ⟨hstart.2, hk⟩ hk
    · exact hplaced
  | some r =>
    obtain ⟨purpose, slots, start⟩ := r
    cases purpose with
    | regulation =>
      rw [Generator.handover_of_regulation _ _ _ _ _ hrun]
      split
      · split
        · next hmore => exact Generator.extend_inOrder _ _ _ ⟨by omega, hk⟩ hplaced
        · exact hplaced
      · exact Generator.idle_inOrder hk
    | test =>
      rw [Generator.handover_of_test _ _ _ _ _ hrun]
      repeat' split
      · next hstart => exact Generator.start_inOrder _ _ _ ⟨hstart, hk⟩ hk
      · exact Generator.cancelTest_inOrder hk
      · exact hplaced
      · exact Generator.cancelTest_inOrder hk

theorem Generator.periodEnd_inOrder (now periodMs : Nat) (h : g.inOrder) : (g.periodEnd now periodMs).inOrder := by
  obtain ⟨-, -, hdemand⟩ := h
  unfold Generator.periodEnd
  repeat' split
  · next hk => exact Generator.start_inOrder _ _ _ ⟨hk, hdemand⟩ hdemand
  · exact Generator.idle_inOrder hdemand
  · exact Generator.idle_inOrder hdemand

theorem Generator.assertionEnd_inOrder (h : g.inOrder) : g.assertionEnd.inOrder := by
  obtain ⟨-, hslots, hdemand⟩ := h
  exact ⟨⟨fun ha => absurd ha Bool.false_ne_true, rfl⟩, hslots, hdemand⟩

theorem Generator.initial_inOrder : Generator.initial.inOrder :=
  Generator.idle_inOrder (g := .initial) (Nat.zero_le 8)

theorem Generator.reset_inOrder (g : Generator) : g.reset.inOrder :=
  Generator.inOrder_of rfl rfl rfl (Nat.zero_le 8) Generator.initial_inOrder

end

/-! ### The operations keep the regulation cut on its path -/

/-- The last handover brought the path, and a regulation period runs on CUT_LINE alone (R160, R161, R164). -/
def Generator.onPath (g : Generator) (path : DrivePath) : Prop :=
  g.lastPath = path ∧ (g.cutActive = true → path = .cutLine)

theorem State.cutOnItsPath_iff {s : State} : s.cutOnItsPath ↔ s.generator.onPath s.drive.path := Iff.rfl

section

variable {g : Generator} {path : DrivePath}

theorem Generator.onPath_of_quiet (hpath : g.lastPath = path) (h : g.cutActive = false) : g.onPath path :=
  ⟨hpath, fun hcut => absurd (h.symm.trans hcut) Bool.false_ne_true⟩

/-- Whatever ran before, a handover leaves a regulation period on CUT_LINE alone (R161, R164). -/
theorem Generator.handover_onPath (k : Nat) (atRest : Bool) (now periodMs : Nat) :
    (g.handover path k atRest now periodMs).onPath path := by
  refine ⟨(g.handover_keeps path k atRest now periodMs).1, fun hcut => ?_⟩
  by_contra hbus
  have hquiet : (g.handover path k atRest now periodMs).cutActive = false := by
    cases hrun : g.run with
    | none =>
      rw [Generator.handover_of_idle _ _ _ _ _ hrun, if_neg fun h => hbus h.1]
      simp [Generator.cutActive, Generator.placed, hrun]
    | some r =>
      obtain ⟨purpose, slots, start⟩ := r
      cases purpose with
      | regulation =>
        rw [Generator.handover_of_regulation _ _ _ _ _ hrun, if_neg hbus]
        rfl
      | test =>
        rw [Generator.handover_of_test _ _ _ _ _ hrun, if_neg hbus]
        split
        · simp [Generator.cutActive, Generator.placed, hrun]
        · rfl
  exact absurd (hquiet.symm.trans hcut) Bool.false_ne_true

/-- A period that follows a regulation period is on its path (R163). -/
theorem Generator.periodEnd_onPath (now periodMs : Nat) (h : g.onPath path) : (g.periodEnd now periodMs).onPath path := by
  obtain ⟨hpath, hcut⟩ := h
  refine ⟨(Generator.periodEnd_keeps now periodMs g).1.trans hpath, ?_⟩
  unfold Generator.periodEnd
  split
  · next hrun => exact fun _ => hcut (by simp [Generator.cutActive, hrun])
  · exact fun h => nomatch h

end

/-! ### What one command does -/

/-- What one command can do to the generator and to the output path of the regulator (R160..R169). -/
inductive State.DrivesCut (s t : State) : Prop where
  | keeps (hgen : t.generator = s.generator) (hpath : t.drive.path = s.drive.path)
  | restarts (hgen : t.generator = .initial) (hpath : t.drive.path = .none)
  | resets (hgen : t.generator = s.generator.reset) (hpath : t.drive.path = s.drive.path)
  | tests (k now period : Nat) (hk : within 1 8 k) (hgen : t.generator = s.generator.start .test k now period)
      (hpath : t.drive.path = s.drive.path)
  | hands (k now period : Nat) (atRest : Bool) (hk : s.profile.inRange → k ≤ 8)
      (hgen : t.generator = s.generator.handover t.drive.path k atRest now period)
  | releases (hgen : t.generator = s.generator.assertionEnd) (hpath : t.drive.path = s.drive.path)
  | ends (now period : Nat) (hgen : t.generator = s.generator.periodEnd now period)
      (hpath : t.drive.path = s.drive.path)

section

variable {s t : State}

theorem State.DrivesCut.inOrder (h : s.DrivesCut t) (hp : s.profile.inRange) (hs : s.generator.inOrder) :
    t.generator.inOrder := by
  cases h with
  | keeps hgen => exact hgen ▸ hs
  | restarts hgen => exact hgen ▸ Generator.initial_inOrder
  | resets hgen => exact hgen ▸ s.generator.reset_inOrder
  | tests k now period hk hgen =>
    obtain ⟨-, -, hdemand⟩ := hs
    exact hgen ▸ Generator.start_inOrder .test now period hk hdemand
  | hands k now period atRest hk hgen => exact hgen ▸ Generator.handover_inOrder _ atRest now period (hk hp) hs
  | releases hgen => exact hgen ▸ Generator.assertionEnd_inOrder hs
  | ends now period hgen => exact hgen ▸ Generator.periodEnd_inOrder now period hs

theorem State.DrivesCut.cutOnItsPath (h : s.DrivesCut t) (hs : s.cutOnItsPath) : t.cutOnItsPath := by
  rw [State.cutOnItsPath_iff] at hs ⊢
  obtain ⟨hlast, hcut⟩ := id hs
  cases h with
  | keeps hgen hpath => rwa [hgen, hpath]
  | restarts hgen hpath => exact hgen ▸ Generator.onPath_of_quiet hpath.symm rfl
  | resets hgen hpath => exact hgen ▸ Generator.onPath_of_quiet (hlast.trans hpath.symm) rfl
  | tests k now period hk hgen hpath => exact hgen ▸ Generator.onPath_of_quiet (hlast.trans hpath.symm) rfl
  | hands k now period atRest hk hgen => exact hgen ▸ Generator.handover_onPath k atRest now period
  | releases hgen hpath =>
    rw [hgen, hpath]
    exact ⟨hlast, hcut⟩
  | ends now period hgen hpath =>
    rw [hgen, hpath]
    exact Generator.periodEnd_onPath now period hs

/-- What reaches the generator reaches it from any state that holds the same of it. -/
theorem State.DrivesCut.of_frame {u : State} (h : u.DrivesCut t) (hgen : u.generator = s.generator)
    (hpath : u.drive.path = s.drive.path) (hprofile : u.profile = s.profile) : s.DrivesCut t := by
  cases h with
  | keeps h h' => exact .keeps (h.trans hgen) (h'.trans hpath)
  | restarts h h' => exact .restarts h h'
  | resets h h' => exact .resets (hgen ▸ h) (h'.trans hpath)
  | tests k now period hk h h' => exact .tests k now period hk (hgen ▸ h) (h'.trans hpath)
  | hands k now period atRest hk h => exact .hands k now period atRest (fun hp => hk (hprofile ▸ hp)) (hgen ▸ h)
  | releases h h' => exact .releases (hgen ▸ h) (h'.trans hpath)
  | ends now period h h' => exact .ends now period (hgen ▸ h) (h'.trans hpath)

end

section

variable (s : State)

/-- Of the service requests CUT_TEST alone reaches the generator (R166, R185). -/
theorem State.serveTest_drivesCut (r : Request) : s.DrivesCut (s.serveTest r) := by
  by_cases h : s.generator.mayTest s.topics.atRest = true
  · rw [s.serveTest_of_taken r h]
    exact .tests (testSlots r.data.toNat) s.now s.profile.cutPeriod (clampNat_within (by decide) _) (by simp) (by simp)
  · rw [s.serveTest_of_refused r h]
    exact .keeps (by simp) (by simp)

theorem State.serve_drivesCut (p : List Byte) : s.DrivesCut (s.serve p) := by
  unfold State.serve State.judgeRequest State.serveKind
  dsimp only
  repeat' split
  rotate_right
  · exact s.serveTest_drivesCut _
  all_goals exact .keeps (by simp) (by simp)

theorem State.resetMessage_drivesCut (f : Frame) : s.DrivesCut (s.resetMessage f) := by
  unfold State.resetMessage
  split
  · exact .resets (State.chassisReset_generator _) (by rw [State.chassisReset_drive]; rfl)
  · exact .keeps rfl rfl

theorem State.offerEntries_drivesCut (f : Frame) (l : List EntryName) : s.DrivesCut (s.offerEntries f l) := by
  induction l generalizing s with
  | nil => exact .keeps rfl rfl
  | cons e rest ih =>
    exact (ih (s.offerEntry e f)).of_frame (by simp) (by simp) (by simp [State.profile])

theorem State.hearFrame_drivesCut (bits : List Level) : s.DrivesCut (s.hearFrame bits) := by
  have hhand : ∀ (u : State) (f : Frame), u.DrivesCut (u.handOver f) := by
    intro u f
    unfold State.handOver
    repeat' split
    · exact u.offerEntries_drivesCut f _
    · exact u.resetMessage_drivesCut f
    · exact u.serve_drivesCut _
    · exact .keeps rfl rfl
  have hreceive : ∀ (u : State) (heard : Heard), u.DrivesCut (u.receive heard) := by
    intro u heard
    cases heard with
    | good f => exact (hhand (u.driveSlot _) f).of_frame rfl rfl rfl
    | badHeader | badLength | badPayload => exact .keeps rfl rfl
  unfold State.hearFrame
  split
  · exact (hreceive (s.clashTest _) _).of_frame (by simp) (by simp) (by simp [State.profile])
  · exact .keeps rfl rfl

/-- A regulation step hands its path over, with a demand of eight slots at most (R120, R121). -/
theorem State.regulationStep_drivesCut : s.DrivesCut s.regulationStep :=
  .hands s.regulationStep.drive.lastDemand s.now s.profile.cutPeriod s.topics.atRest
    (fun hp => by
      obtain ⟨-, -, -, -, hblind, -⟩ := hp
      rw [s.regulationStep_lastDemand]
      exact Drive.demand_le _ _ hblind)
    s.regulationStep_generator

theorem State.loadComplete_drivesCut : s.DrivesCut s.loadComplete :=
  .keeps (by simp [State.loadComplete]) (by simp [State.loadComplete, State.startTimers_drive])

end

/-- The commands that reach the generator or the output path. -/
def reachesCut : Instr → Bool
  | .powerOn | .profileLoadComplete _ | .frameHeard _ _ | .regulationStep | .assertionEndExpiry
  | .cutPeriodExpiry => true
  | _ => false

section

variable {s t : State} {c : Instr}

theorem exec_generator_of_not_reaches (hc : reachesCut c = false) (h : exec c s = .next t) :
    t.generator = s.generator ∧ t.drive = s.drive := by
  cases c with
  | powerOn | profileLoadComplete | frameHeard | regulationStep | assertionEndExpiry | cutPeriodExpiry => cases hc
  | frameStart | arbitrationLoss | collided | ackSlotRead | mediumIdle =>
    cases h
    simp
  | muteExpiry | joinWaitExpiry | deadlineExpiry | staleExpiry | atRestExpiry | baseValidityExpiry | reliefExpiry
  | brakeStep | gripState | echoDeadlineExpiry | ltStatus | windowExpiry =>
    simp only [exec, execMuteExpiry, execJoinWaitExpiry, execDeadlineExpiry, execStaleExpiry, execAtRestExpiry,
      execBaseValidityExpiry, execReliefExpiry, execBrakeStep, execGripState, execEchoDeadlineExpiry, execLtStatus,
      execWindowExpiry] at h
    split at h
    all_goals
      cases h
      simp
  | storePageBurstEnd | storePageDone | storePageTimeout | storeReadbackComplete | readBurstEnd =>
    simp only [exec, execStorePageBurstEnd, execStorePageDone, execStorePageTimeout, execStoreReadbackComplete,
      execReadBurstEnd] at h
    repeat' split at h
    all_goals
      cases h
      simp

theorem exec_drivesCut (h : exec c s = .next t) : s.DrivesCut t := by
  cases hc : reachesCut c with
  | false =>
    obtain ⟨hgen, hdrive⟩ := exec_generator_of_not_reaches hc h
    exact .keeps hgen (congrArg Drive.path hdrive)
  | true =>
    cases c with
    | powerOn =>
      cases h
      exact .restarts rfl rfl
    | profileLoadComplete min =>
      simp only [exec, execProfileLoadComplete] at h
      split at h
      · cases h
        exact (s.takeBurst 3 min).loadComplete_drivesCut.of_frame rfl rfl rfl
      · cases h
        exact .keeps rfl rfl
    | frameHeard after bits =>
      cases h
      exact ((s.elapse after).hearFrame_drivesCut bits).of_frame rfl rfl rfl
    | regulationStep =>
      cases hdue : s.drive.stepDue with
      | none =>
        rw [exec_regulationStep_of_stopped hdue, Host.Outcome.next.injEq] at h
        exact h ▸ .keeps rfl rfl
      | some due =>
        rw [exec_regulationStep_of_due hdue, Host.Outcome.next.injEq] at h
        exact h ▸ (s.atDriveStep due).regulationStep_drivesCut.of_frame rfl rfl rfl
    | assertionEndExpiry =>
      simp only [exec, execAssertionEndExpiry] at h
      split at h
      · cases h
        exact .releases rfl rfl
      · cases h
        exact .keeps rfl rfl
    | cutPeriodExpiry =>
      simp only [exec, execCutPeriodExpiry] at h
      split at h
      · cases h
        exact .ends _ _ (State.tellCut_generator _ _) (congrArg Drive.path (State.tellCut_drive _ _))
      · cases h
        exact .keeps rfl rfl
    | _ => cases hc

end

/-- Settles O58: both invariants hold of whatever one command does to the generator, and an asserted line has a period
running, whose purpose tells which of the two allows it. -/
theorem generatorStaysInOrder : Obligations.GeneratorStaysInOrder := by
  refine ⟨fun s t hp hs h => ?_, fun s t hs h => ?_, ⟨rfl, fun h => nomatch h⟩, fun s hs hline hasserted => ?_⟩
  · rcases step_cases h with ⟨c, q, hexec⟩ | rfl
    · exact (exec_drivesCut (s := s.setPending q) hexec).inOrder hp hs
    · exact hs
  · rcases step_cases h with ⟨c, q, hexec⟩ | rfl
    · exact (exec_drivesCut (s := s.setPending q) hexec).cutOnItsPath hs
    · exact hs
  · obtain ⟨-, hcut⟩ := hs
    obtain ⟨hrun, -⟩ := hline
    obtain ⟨⟨purpose, slots, start⟩, hrun⟩ := Option.isSome_iff_exists.mp (hrun hasserted)
    cases purpose with
    | regulation => exact .inl (hcut (by simp [Generator.cutActive, hrun]))
    | test => exact .inr ⟨slots, start, hrun⟩

end Sys2Proof.Machine
end

section
/-! The echo lists and the consumer status: what a delivery, an echo and a miss make of a track (R152..R158). -/

namespace Sys2Proof.Machine

section

variable {t : Track}

/-! ### Misses -/

theorem Track.miss_status_of_following (h : t.status = .following) : t.miss.status = .lagging := by
  simp [Track.miss, h]

theorem Track.miss_status_of_lagging (h : t.status = .lagging) :
    t.miss.status = if 3 ≤ t.misses + 1 then .silent else .lagging := by
  have hcount : 3 ≤ bump255 t.misses ↔ 3 ≤ t.misses + 1 := by
    unfold bump255
    omega
  simp only [Track.miss, h, hcount]

theorem Track.miss_status_of_silent (h : t.status = .silent) : t.miss.status = .silent := by
  simp [Track.miss, h]

/-! ### Deliveries -/

/-- A delivery of a sequence that the list does not hold removes nothing for it (R153). -/
theorem Track.dropSame_of_new {n : Seq} (h : ∀ x ∈ t.echoes, x.seq ≠ n) : t.dropSame n = t := by
  refine if_neg ?_
  simpa using h

theorem Track.dropSame_of_held {n : Seq} (h : ∃ x ∈ t.echoes, x.seq = n) :
    t.dropSame n =
      { ({ t with echoes := t.echoes.filter fun x => x.seq != n } : Track).miss with replaced := bump t.replaced } := by
  refine if_pos ?_
  simpa using h

theorem Track.dropOldest_of_room (h : t.echoes.length ≤ 3) : t.dropOldest = t := if_neg (by omega)

theorem Track.dropOldest_of_full (h : 4 ≤ t.echoes.length) :
    t.dropOldest = { ({ t with echoes := t.echoes.tail } : Track).miss with overruns := bump t.overruns } := if_pos h

theorem Track.dropSame_echoes (t : Track) (n : Seq) :
    (t.dropSame n).echoes = t.echoes.filter fun x => x.seq != n := by
  by_cases h : ∃ x ∈ t.echoes, x.seq = n
  · rw [Track.dropSame_of_held h]
    rfl
  · push Not at h
    rw [Track.dropSame_of_new h, List.filter_eq_self.mpr (by simpa using h)]

theorem Track.dropOldest_echoes (t : Track) :
    t.dropOldest.echoes = if 4 ≤ t.echoes.length then t.echoes.tail else t.echoes := by
  unfold Track.dropOldest
  split <;> rfl

theorem Track.deliver_echoes (t : Track) (e : EchoEntry) :
    (t.deliver e).echoes = ((t.dropSame e.seq).dropOldest).echoes ++ [e] := rfl

theorem Track.deliver_deliveries (t : Track) (e : EchoEntry) : (t.deliver e).deliveries = bump t.deliveries := by
  have hsame : (t.dropSame e.seq).deliveries = t.deliveries := by
    unfold Track.dropSame
    split <;> rfl
  have holdest : ∀ u : Track, u.dropOldest.deliveries = u.deliveries := by
    intro u
    unfold Track.dropOldest
    split <;> rfl
  exact congrArg bump ((holdest _).trans hsame)

/-- With a new sequence and room in the list a delivery is appended and counted, and nothing else (R153). -/
theorem Track.deliver_of_room {e : EchoEntry} (hnew : ∀ x ∈ t.echoes, x.seq ≠ e.seq) (hroom : t.echoes.length ≤ 3) :
    t.deliver e = { t with echoes := t.echoes ++ [e], deliveries := bump t.deliveries } := by
  simp only [Track.deliver, Track.dropSame_of_new hnew, Track.dropOldest_of_room hroom]

/-- With a new sequence and a full list the oldest entry is overrun (R153). -/
theorem Track.deliver_of_full {e : EchoEntry} (hnew : ∀ x ∈ t.echoes, x.seq ≠ e.seq) (hfull : 4 ≤ t.echoes.length) :
    t.deliver e =
      { t.miss with
        echoes := t.echoes.tail ++ [e]
        overruns := bump t.overruns
        deliveries := bump t.deliveries } := by
  simp only [Track.deliver, Track.dropSame_of_new hnew, Track.dropOldest_of_full hfull]
  rfl

/-- With its own sequence in the list a delivery replaces that entry, and the list has room then (R153). -/
theorem Track.deliver_of_held {e : EchoEntry} (hheld : ∃ x ∈ t.echoes, x.seq = e.seq) (hlength : t.echoes.length ≤ 4) :
    t.deliver e =
      { t.miss with
        echoes := (t.echoes.filter fun x => x.seq != e.seq) ++ [e]
        replaced := bump t.replaced
        deliveries := bump t.deliveries } := by
  have hshorter : (t.echoes.filter fun x => x.seq != e.seq).length < t.echoes.length :=
    List.length_filter_lt_length_iff_exists.mpr (by simpa using hheld)
  have hroom : (t.dropSame e.seq).echoes.length ≤ 3 := by
    rw [Track.dropSame_echoes]
    omega
  unfold Track.deliver
  rw [Track.dropOldest_of_room hroom, Track.dropSame_of_held hheld]
  rfl

/-! ### Echoes -/

theorem isStray_iff {l : List EchoEntry} {e : Seq} :
    isStray l e = true ↔ l = [] ∨
      (∃ newest, l.getLast? = some newest ∧ 8 ≤ (16 + newest.seq.toNat - e.toNat) % 16) ∨ ∀ x ∈ l, x.seq ≠ e := by
  cases hlast : l.getLast? with
  | none => simp [isStray, List.getLast?_eq_none_iff.mp hlast]
  | some newest =>
    have hne : l ≠ [] := fun h => by simp [h] at hlast
    have hbehind : (newest.seq - e).toNat = (16 + newest.seq.toNat - e.toNat) % 16 := by
      rw [BitVec.toNat_sub]
      omega
    simp [isStray, hlast, hne, hbehind]

/-- The entries newer than a held sequence are those behind it in the list. -/
theorem newerThan_of_held {e : Seq} {l : List EchoEntry} (h : ∃ x ∈ l, x.seq = e) :
    ∃ older x, l = older ++ x :: newerThan e l ∧ x.seq = e := by
  induction l with
  | nil => simp at h
  | cons y rest ih =>
    by_cases hy : y.seq = e
    · exact ⟨[], y, by simp [newerThan, hy], hy⟩
    · obtain ⟨older, x, hrest, hx⟩ := ih (by simpa [hy] using h)
      refine ⟨y :: older, x, ?_, hx⟩
      rw [newerThan, if_neg hy, List.cons_append, ← hrest]

theorem Track.judgeEcho_of_stray {e : Seq} (h : isStray t.echoes e = true) :
    t.judgeEcho e = { t with strays := bump t.strays } := if_pos h

theorem Track.judgeEcho_of_match {e : Seq} (h : ¬isStray t.echoes e = true) :
    t.judgeEcho e =
      { t with
        echoes := newerThan e t.echoes
        matchCount := bump t.matchCount
        misses := 0
        matches' := bump255 t.matches'
        status := t.status.afterMatch (bump255 t.matches') } := if_neg h

theorem ConsumerStatus.afterMatch_of_audible {status : ConsumerStatus} (h : status ≠ .silent) (n : Nat) :
    status.afterMatch n = .following := by
  cases status with
  | following | lagging => rfl
  | silent => exact absurd rfl h

/-- A silent consumer follows again at its fourth match (R158). -/
theorem ConsumerStatus.afterMatch_of_silent (n : Nat) :
    ConsumerStatus.silent.afterMatch (bump255 n) = if 4 ≤ n + 1 then .following else .silent := by
  have hcount : 4 ≤ bump255 n ↔ 4 ≤ n + 1 := by
    unfold bump255
    omega
  simp only [ConsumerStatus.afterMatch, hcount]

/-! ### Arrivals -/

theorem Track.arrival_of_third_absent (h : t.absentRun = 2) :
    t.arrival none = ({ t with absentRun := bump255 t.absentRun } : Track).silence := if_pos h

theorem Track.arrival_of_absent (h : t.absentRun ≠ 2) :
    t.arrival none = { t with absentRun := bump255 t.absentRun } := if_neg h

theorem Track.judgeEcho_absentRun (t : Track) (e : Seq) : (t.judgeEcho e).absentRun = t.absentRun := by
  unfold Track.judgeEcho
  split <;> rfl

end

/-- Settles O52: the list by what a delivery removes and what an echo names, the status by misses, matches and absent
echoes. -/
theorem echoListsDecideTheStatus : Obligations.EchoListsDecideTheStatus := by
  refine ⟨fun t _ => ⟨fun e => ⟨?_, fun hnew hroom => Track.deliver_of_room hnew hroom, fun hnew hfull => ?_,
    fun hheld hlength => ?_, t.deliver_deliveries e⟩, fun e => ⟨fun hstray => ?_, fun hmatch => ?_⟩⟩, fun t => ?_⟩
  · rw [Track.deliver_echoes, Track.dropOldest_echoes, Track.dropSame_echoes]
  · rw [Track.deliver_of_full hnew hfull.ge]
    exact ⟨rfl, rfl, rfl, rfl, rfl⟩
  · rw [Track.deliver_of_held hheld hlength]
    exact ⟨rfl, rfl, rfl, rfl, rfl⟩
  · exact Track.judgeEcho_of_stray (isStray_iff.mpr hstray)
  · obtain ⟨-, hnamed⟩ := not_or.mp hmatch
    obtain ⟨older, x, hsplit, hx⟩ := newerThan_of_held (e := e) (by simpa using (not_or.mp hnamed).2)
    refine ⟨older, x, newerThan e t.echoes, hsplit, hx, ?_⟩
    rw [Track.judgeEcho_of_match (mt isStray_iff.mp hmatch)]
    exact ⟨rfl, rfl, rfl, rfl, rfl⟩
  · refine ⟨Track.miss_status_of_following, fun h hfew => ?_, fun h hmany => ?_, Track.miss_status_of_silent, rfl, rfl,
      fun e hmatch => ?_, fun e hstray => ?_, ?_, fun h => ?_, fun h => ?_,
      fun e => ⟨Track.judgeEcho_absentRun _ _, rfl⟩⟩
    · rw [Track.miss_status_of_lagging h, if_neg (by omega)]
    · rw [Track.miss_status_of_lagging h, if_pos hmany]
    · rw [Track.judgeEcho_of_match (by simp [hmatch])]
      refine ⟨fun h => ConsumerStatus.afterMatch_of_audible h _, fun h hfew => ?_, fun h hmany => ?_⟩
      · rw [h, ConsumerStatus.afterMatch_of_silent, if_neg (by omega)]
      · rw [h, ConsumerStatus.afterMatch_of_silent, if_pos hmany]
    · rw [Track.judgeEcho_of_stray hstray]
    · by_cases h : t.absentRun = 2
      · rw [Track.arrival_of_third_absent h]
        rfl
      · rw [Track.arrival_of_absent h]
        rfl
    · rw [Track.arrival_of_third_absent h]
      exact ⟨rfl, rfl⟩
    · rw [Track.arrival_of_absent h]

/-! ### The deadline of an echo -/

theorem exec_echoDeadlineExpiry_of_waiting {c : Consumer} {s : State} {e : EchoEntry} {rest : List EchoEntry}
    (h : (s.publisher.track c).echoes = e :: rest) :
    exec (.echoDeadlineExpiry c) s =
      .next ((s.until (e.deliveredAt + 300)).setTrack c (s.publisher.track c).deadline) := by
  simp only [exec, execEchoDeadlineExpiry, h]
  rfl

/-- Settles O53: the track takes the miss, and its SILENT condition follows. -/
theorem echoDeadlinesCountMisses : Obligations.EchoDeadlinesCountMisses := by
  intro c s e rest h
  let u : State := s.until (e.deliveredAt + 300)
  let r : Track := (s.publisher.track c).deadline
  have htrack : (u.setTrack c r).publisher.track c = r := (u.setTrack_track c r c).trans (if_pos rfl)
  obtain ⟨hechoes, hstatus, hmisses, hmatches, hdeadline⟩ :
      r.echoes = rest ∧ r.status = (s.publisher.track c).miss.status ∧
        r.misses = min 255 ((s.publisher.track c).misses + 1) ∧ r.matches' = 0 ∧
        r.deadlineMisses = bump (s.publisher.track c).deadlineMisses :=
    ⟨congrArg List.tail h, rfl, rfl, rfl, rfl⟩
  refine ⟨u.setTrack c r, exec_echoDeadlineExpiry_of_waiting h, u.setTrack_now c r, by rwa [htrack], by rwa [htrack],
    by rwa [htrack], by rwa [htrack], by rwa [htrack], fun d hd => (u.setTrack_track c r d).trans (if_neg hd),
    u.setTrack_onlyFault c r, u.setTrack_onlyOffers c r, ?_⟩
  intro p hp
  cases p <;> simp_all [State.agreesOn, u]

end Sys2Proof.Machine
end

section
/-! What happens to a track keeps it in order: a delivery adds the newest entry to at most three others, every other
change takes entries away, and a miss makes a FOLLOWING consumer LAGGING (R152..R158). -/

namespace Sys2Proof.Machine

section

variable {t : Track} {now : Nat}

theorem Track.inOrder_later {later : Nat} (h : t.inOrder now) (hlater : now ≤ later) : t.inOrder later := by
  obtain ⟨hlength, hseqs, hages, hpast, hjudged⟩ := h
  exact ⟨hlength, hseqs, hages, fun a ha => (hpast a ha).trans hlater, hjudged⟩

/-- An empty list is in order at every moment. -/
theorem Track.inOrder_of_empty (other : Nat) (h : t.inOrder now) (hempty : t.echoes = []) : t.inOrder other := by
  obtain ⟨hlength, hseqs, hages, -, hjudged⟩ := h
  exact ⟨hlength, hseqs, hages, fun a ha => by simp [hempty] at ha, hjudged⟩

theorem Track.inOrder_of_sublist {l : List EchoEntry} (h : t.inOrder now) (hl : l.Sublist t.echoes) :
    ({ t with echoes := l } : Track).inOrder now := by
  obtain ⟨hlength, hseqs, hages, hpast, hjudged⟩ := h
  exact ⟨hl.length_le.trans hlength, hseqs.sublist (hl.map _), hages.sublist hl, fun a ha => hpast a (hl.subset ha),
    hjudged⟩

/-- A track with the same list whose judgement is consistent. -/
theorem Track.inOrder_of_judged {u : Track} (h : t.inOrder now) (hechoes : u.echoes = t.echoes)
    (hfollowing : u.status = .following → u.misses = 0) (hmisses : u.misses ≤ 255) (hmatches : u.matches' ≤ 255)
    (habsent : u.absentRun ≤ 255) : u.inOrder now := by
  obtain ⟨hlength, hseqs, hages, hpast, -⟩ := h
  rw [← hechoes] at hlength hseqs hages hpast
  exact ⟨hlength, hseqs, hages, hpast, hfollowing, hmisses, hmatches, habsent⟩

theorem bump255_le (n : Nat) : bump255 n ≤ 255 := Nat.min_le_left _ _

theorem Track.miss_status_ne_following (t : Track) : t.miss.status ≠ .following := by
  cases hstatus : t.status with
  | following => simp [Track.miss_status_of_following hstatus]
  | lagging =>
    rw [Track.miss_status_of_lagging hstatus]
    split <;> decide
  | silent => simp [Track.miss_status_of_silent hstatus]

theorem Track.miss_inOrder (h : t.inOrder now) : t.miss.inOrder now := by
  obtain ⟨-, -, -, -, -, -, -, habsent⟩ := id h
  exact Track.inOrder_of_judged h rfl (fun hstatus => absurd hstatus t.miss_status_ne_following) (bump255_le _)
    (Nat.zero_le _) habsent

theorem Track.silence_inOrder (h : t.inOrder now) : t.silence.inOrder now := by
  obtain ⟨-, -, -, -, -, hmisses, -, habsent⟩ := id h
  exact Track.inOrder_of_judged h rfl (fun hstatus => nomatch hstatus) hmisses (Nat.zero_le _) habsent

theorem Track.withhold_inOrder (h : t.inOrder now) : t.withhold.inOrder now := h

theorem Track.deadline_inOrder (h : t.inOrder now) : t.deadline.inOrder now :=
  Track.miss_inOrder (Track.inOrder_of_sublist h (List.tail_sublist _))

theorem Track.dropSame_inOrder (n : Seq) (h : t.inOrder now) : (t.dropSame n).inOrder now := by
  unfold Track.dropSame
  split
  · exact Track.miss_inOrder (Track.inOrder_of_sublist h List.filter_sublist)
  · exact h

theorem Track.dropOldest_inOrder (h : t.inOrder now) : t.dropOldest.inOrder now := by
  unfold Track.dropOldest
  split
  · exact Track.miss_inOrder (Track.inOrder_of_sublist h (List.tail_sublist _))
  · exact h

theorem Track.dropOldest_length_le (h : t.inOrder now) : t.dropOldest.echoes.length ≤ 3 := by
  obtain ⟨hlength, -⟩ := h
  rw [Track.dropOldest_echoes]
  split
  · rw [List.length_tail]
    omega
  · omega

theorem Track.dropOldest_echoes_sublist (t : Track) : t.dropOldest.echoes.Sublist t.echoes := by
  rw [Track.dropOldest_echoes]
  split
  · exact List.tail_sublist _
  · exact List.Sublist.refl _

/-- An entry of a new sequence that is delivered now is the newest. -/
theorem Track.inOrder_append {e : EchoEntry} (deliveries : Nat) (h : t.inOrder now) (hroom : t.echoes.length ≤ 3)
    (hnew : ∀ x ∈ t.echoes, x.seq ≠ e.seq) (hnow : e.deliveredAt = now) :
    ({ t with echoes := t.echoes ++ [e], deliveries := deliveries } : Track).inOrder now := by
  obtain ⟨-, hseqs, hages, hpast, hjudged⟩ := h
  refine ⟨by simpa [Nat.lt_succ_iff] using hroom, ?_, ?_, fun a ha => ?_, hjudged⟩
  · rw [List.map_append]
    refine List.nodup_append.mpr ⟨hseqs, List.nodup_singleton _, fun a ha b hb => ?_⟩
    obtain ⟨x, hx, rfl⟩ := List.mem_map.mp ha
    obtain rfl := List.mem_singleton.mp hb
    exact hnew x hx
  · refine List.pairwise_append.mpr ⟨hages, List.pairwise_singleton _ _, fun a ha b hb => ?_⟩
    obtain rfl := List.mem_singleton.mp hb
    exact hnow ▸ hpast a ha
  · rcases List.mem_append.mp ha with ha | ha
    · exact hpast a ha
    · obtain rfl := List.mem_singleton.mp ha
      exact hnow.le

theorem Track.deliver_inOrder {e : EchoEntry} (h : t.inOrder now) (hnow : e.deliveredAt = now) :
    (t.deliver e).inOrder now := by
  have hsame := Track.dropSame_inOrder e.seq h
  refine Track.inOrder_append _ (Track.dropOldest_inOrder hsame) (Track.dropOldest_length_le hsame) (fun x hx => ?_) hnow
  have hx' := (Track.dropOldest_echoes_sublist _).subset hx
  rw [Track.dropSame_echoes] at hx'
  simpa using (List.mem_filter.mp hx').2

theorem newerThan_sublist (e : Seq) (l : List EchoEntry) : (newerThan e l).Sublist l := by
  induction l with
  | nil => exact List.Sublist.refl _
  | cons x rest ih =>
    unfold newerThan
    split
    · exact List.sublist_cons_self x rest
    · exact ih.cons x

theorem Track.judgeEcho_inOrder (e : Seq) (h : t.inOrder now) : (t.judgeEcho e).inOrder now := by
  by_cases hstray : isStray t.echoes e = true
  · rw [Track.judgeEcho_of_stray hstray]
    exact h
  · obtain ⟨-, -, -, -, -, -, -, habsent⟩ := id h
    rw [Track.judgeEcho_of_match hstray]
    exact Track.inOrder_of_judged (Track.inOrder_of_sublist h (newerThan_sublist e t.echoes)) rfl (fun _ => rfl)
      (Nat.zero_le _) (bump255_le _) habsent

theorem Track.arrival_inOrder (echo : Option Nat) (h : t.inOrder now) : (t.arrival echo).inOrder now := by
  obtain ⟨-, -, -, -, hfollowing, hmisses, hmatches, -⟩ := id h
  have hrun : ∀ n, n ≤ 255 → ({ t with absentRun := n } : Track).inOrder now := fun n hn =>
    Track.inOrder_of_judged h rfl hfollowing hmisses hmatches hn
  cases echo with
  | some e => exact Track.judgeEcho_inOrder _ (hrun 0 (Nat.zero_le _))
  | none =>
    by_cases hthird : t.absentRun = 2
    · rw [Track.arrival_of_third_absent hthird]
      exact Track.silence_inOrder (hrun _ (bump255_le _))
    · rw [Track.arrival_of_absent hthird]
      exact hrun _ (bump255_le _)

/-- An arrival adds no entry. -/
theorem Track.arrival_echoes_sublist (t : Track) (echo : Option Nat) : (t.arrival echo).echoes.Sublist t.echoes := by
  cases echo with
  | some e =>
    show (({ t with absentRun := 0 } : Track).judgeEcho _).echoes.Sublist t.echoes
    unfold Track.judgeEcho
    split
    · exact List.Sublist.refl _
    · exact newerThan_sublist _ _
  | none =>
    unfold Track.arrival
    dsimp only
    split <;> exact List.Sublist.refl _

end

end Sys2Proof.Machine
end

section
/-! The echo lists at every step: the commands that reach a track and those that leave both alone (R150..R159, R168,
R169). -/

namespace Sys2Proof.Machine

@[simp] theorem State.elapse_now (s : State) (dt : Nat) : (s.elapse dt).now = s.now + dt := rfl

@[simp] theorem State.until_now (s : State) (due : Nat) : (s.until due).now = max s.now due := rfl

section

variable (s : State) (c : Consumer)

/-! ### What leaves the tracks -/

@[simp] theorem State.tellDriveIfChanged_track (before : Drive) :
    (s.tellDriveIfChanged before).publisher.track c = s.publisher.track c := by
  unfold State.tellDriveIfChanged State.tellDrive
  split <;> simp

@[simp] theorem State.tellBrakeIfChanged_track (before : Brake) :
    (s.tellBrakeIfChanged before).publisher.track c = s.publisher.track c := by
  unfold State.tellBrakeIfChanged
  split <;> simp

@[simp] theorem State.tellStep_track (before : Drive) :
    (s.tellStep before).publisher.track c = s.publisher.track c := by
  simp [State.tellStep]

@[simp] theorem State.estimate_track (cause : LeanCause) :
    (s.estimate cause).publisher.track c = s.publisher.track c := by
  simp [State.estimate, State.refreshBase, State.refreshLeanConditions]

@[simp] theorem State.podArrival_track : s.podArrival.publisher.track c = s.publisher.track c := by
  unfold State.podArrival
  split <;> simp

@[simp] theorem State.answer_track (r : Request) (status : ServiceStatus) (data : List Byte) :
    (s.answer r status data).publisher.track c = s.publisher.track c := by
  simp [State.answer, State.offerReply]

@[simp] theorem State.finishStore_track (st : Store) (succeeded : Bool) :
    (s.finishStore st succeeded).publisher.track c = s.publisher.track c := by
  simp [State.finishStore, State.offerReply]

theorem State.serveRead_track (r : Request) : (s.serveRead r).publisher.track c = s.publisher.track c := by
  obtain ⟨status, data, hanswer⟩ := s.serveRead_answers r
  rw [hanswer, State.answer_track]

theorem State.serveWrite_track (r : Request) : (s.serveWrite r).publisher.track c = s.publisher.track c := by
  unfold State.serveWrite
  dsimp only
  repeat' split
  all_goals rw [State.answer_track]
  rfl

theorem State.serveStore_track (r : Request) : (s.serveStore r).publisher.track c = s.publisher.track c := by
  unfold State.serveStore
  split
  · rfl
  · rw [State.answer_track]

theorem State.serveClear_track (r : Request) : (s.serveClear r).publisher.track c = s.publisher.track c := by
  rw [State.serveClear, State.answer_track, State.refreshLamp_track]
  rfl

theorem State.serveTest_track (r : Request) : (s.serveTest r).publisher.track c = s.publisher.track c := by
  unfold State.serveTest
  split <;> rw [State.answer_track]
  rfl

theorem State.judgeRequest_track (r : Request) : (s.judgeRequest r).publisher.track c = s.publisher.track c := by
  unfold State.judgeRequest State.serveKind
  repeat' split
  · exact s.answer_track c r _ _
  · exact s.serveRead_track c r
  · exact s.answer_track c r _ _
  · exact s.answer_track c r _ _
  · exact s.serveWrite_track c r
  · exact s.serveStore_track c r
  · exact s.serveClear_track c r
  · exact s.serveTest_track c r

theorem State.serve_track (p : List Byte) : (s.serve p).publisher.track c = s.publisher.track c := by
  unfold State.serve
  dsimp only
  split
  · rfl
  · exact s.judgeRequest_track c _

@[simp] theorem State.heardNotice_track : s.heardNotice.publisher.track c = s.publisher.track c :=
  s.heardNotice_onlyAwaits.track_eq c

@[simp] theorem State.noticeAccepted_track (e : EntryName) (x : Entry) :
    (s.noticeAccepted e x).publisher.track c = s.publisher.track c :=
  (s.noticeAccepted_onlyAwaits e x).track_eq c

@[simp] theorem State.discardIntruder_track (e : EntryName) :
    (s.discardIntruder e).publisher.track c = s.publisher.track c := by
  unfold State.discardIntruder State.setEntry
  dsimp only
  split <;> simp

@[simp] theorem State.clashTest_track (heard : Heard) :
    (s.clashTest heard).publisher.track c = s.publisher.track c := by
  unfold State.clashTest
  split <;> simp

@[simp] theorem State.enterSilent_track : s.enterSilent.publisher.track c = s.publisher.track c := by
  unfold State.enterSilent
  dsimp only
  split <;> simp

@[simp] theorem State.enterMuted_track : s.enterMuted.publisher.track c = s.publisher.track c := by
  simp [State.enterMuted]

@[simp] theorem State.countFailure_track : s.countFailure.publisher.track c = s.publisher.track c := by
  unfold State.countFailure
  dsimp only
  split <;> simp

@[simp] theorem State.afterDelivery_track : s.afterDelivery.publisher.track c = s.publisher.track c := by
  simp [State.afterDelivery]

@[simp] theorem State.muteExpired_track : s.muteExpired.publisher.track c = s.publisher.track c := by
  simp [State.muteExpired]

@[simp] theorem State.joinWaitExpired_track : s.joinWaitExpired.publisher.track c = s.publisher.track c := by
  simp [State.joinWaitExpired]

@[simp] theorem State.arbitrate_track (key : Nat) : (s.arbitrate key).publisher.track c = s.publisher.track c := by
  unfold State.arbitrate
  repeat' split
  all_goals simp

theorem State.failFrame_track (l : Link) (f : TxFrame) (o : TxOutcome) :
    (s.failFrame l f o).publisher.track c = s.publisher.track c := by
  simp [State.failFrame, Publisher.settle]

@[simp] theorem State.collide_track : s.collide.publisher.track c = s.publisher.track c := by
  cases hf : s.link.wire with
  | none => simp only [State.collide, hf]
  | some f => rw [State.collide_eq_failFrame hf, State.setCondition_track, State.failFrame_track]

theorem State.loadComplete_track : s.loadComplete.publisher.track c = s.publisher.track c := by
  have htimers : ∀ u : State, u.startTimers.publisher.track c = u.publisher.track c := by
    intro u
    rw [State.startTimers_publisher]
    cases c <;> rfl
  have hfix : ∀ u : State, u.fixProfile.publisher.track c = u.publisher.track c := by
    intro u
    simp [State.fixProfile]
  simp [State.loadComplete, State.recomputeLoad, htimers, hfix]

end

/-! ### What keeps the tracks in order -/

/-- From `s` to `t` each track stays in order, and an empty list stays empty until the profile runs. -/
structure State.KeepsTracks (s t : State) : Prop where
  order : ∀ c, (s.publisher.track c).inOrder s.now → (t.publisher.track c).inOrder t.now
  empty : t.loader.phase ≠ .running →
    s.loader.phase ≠ .running ∧ ∀ c, (s.publisher.track c).echoes = [] → (t.publisher.track c).echoes = []

section

variable {s t u : State}

theorem State.KeepsTracks.tracksInOrder (h : s.KeepsTracks t) (hs : s.tracksInOrder) : t.tracksInOrder := by
  obtain ⟨horder, hempty⟩ := hs
  refine ⟨fun c => h.order c (horder c), fun hphase c => ?_⟩
  obtain ⟨hs, hkeep⟩ := h.empty hphase
  exact hkeep c (hempty hs c)

theorem State.KeepsTracks.trans (h : s.KeepsTracks t) (k : t.KeepsTracks u) : s.KeepsTracks u where
  order c := k.order c ∘ h.order c
  empty hphase := by
    obtain ⟨ht, htu⟩ := k.empty hphase
    obtain ⟨hs, hst⟩ := h.empty ht
    exact ⟨hs, fun c => htu c ∘ hst c⟩

/-- Time passes at most, and both tracks are as they were. -/
theorem State.KeepsTracks.of_same (hphase : t.loader.phase ≠ .running → s.loader.phase ≠ .running)
    (hnow : s.now ≤ t.now) (htracks : ∀ c, t.publisher.track c = s.publisher.track c) : s.KeepsTracks t where
  order c h := htracks c ▸ Track.inOrder_later h hnow
  empty hp := ⟨hphase hp, fun c h => (congrArg Track.echoes (htracks c)).trans h⟩

theorem State.KeepsTracks.refl (s : State) : s.KeepsTracks s := .of_same id le_rfl fun _ => rfl

end

section

variable (s : State)

/-- A consumer's track is replaced by one that is in order, with no entry added (R159). -/
theorem State.setTrack_keepsTracks {c : Consumer} {r : Track}
    (horder : (s.publisher.track c).inOrder s.now → r.inOrder s.now)
    (hempty : s.loader.phase ≠ .running → (s.publisher.track c).echoes = [] → r.echoes = []) :
    s.KeepsTracks (s.setTrack c r) where
  order d h := by
    rw [State.setTrack_track, State.setTrack_now]
    split
    · next hd => exact horder (hd ▸ h)
    · exact h
  empty hphase := by
    rw [State.setTrack_loader] at hphase
    refine ⟨hphase, fun d h => ?_⟩
    rw [State.setTrack_track]
    split
    · next hd => exact hempty hphase (hd ▸ h)
    · exact h

theorem State.echoArrival_keepsTracks (c : Consumer) : s.KeepsTracks (s.echoArrival c) :=
  s.setTrack_keepsTracks (Track.arrival_inOrder _) fun _ hempty =>
    List.sublist_nil.mp (hempty ▸ Track.arrival_echoes_sublist (s.publisher.track c) _)

theorem State.consumerStale_keepsTracks (c : Consumer) : s.KeepsTracks (s.consumerStale c) :=
  s.setTrack_keepsTracks Track.silence_inOrder fun _ hempty => hempty

theorem State.publishLimit_keepsTracks (c : Consumer) (v : LimitValue) : s.KeepsTracks (s.publishLimit c v) := by
  unfold State.publishLimit
  split
  · exact .of_same id le_rfl fun d => (State.offer_track _ _ _ d).trans (Publisher.await_track _ _ d)
  · refine ⟨fun d h => ?_, fun hphase => ⟨hphase, fun d h => ?_⟩⟩ <;>
      rw [State.setPublisher_publisher, Publisher.track_setTrack] <;> split
    · next hd => exact Track.withhold_inOrder (hd ▸ h)
    · exact h
    · next hd => exact hd ▸ h
    · exact h

/-- A step moves its channel, hands its value to the publisher and reports. -/
theorem State.regulationStep_keepsTracks : s.KeepsTracks s.regulationStep := by
  let u : State := (s.driveNotice s.driveStages).setDrive (s.driveAfter s.driveStages)
  have hdrive : s.KeepsTracks u := .of_same (by simp [u]) (by simp [u]) (by simp [u])
  exact (hdrive.trans (u.publishLimit_keepsTracks .engine (.drive (s.driveAfter s.driveStages).value))).trans
    (.of_same (by simp [u]) (by simp [u]) fun c => State.tellStep_track (State.handover _ _ _) c s.drive)

theorem State.brakeStep_keepsTracks : s.KeepsTracks s.brakeStep := by
  let v : LimitValue := .brakes s.brakeAfter.front.value s.brakeAfter.rear.value
  have hbrake : s.KeepsTracks (s.setBrake s.brakeAfter) := .of_same id le_rfl fun _ => rfl
  exact (hbrake.trans (State.publishLimit_keepsTracks _ .brake v)).trans
    (.of_same (by simp) (by simp) fun c => State.tellBrakeIfChanged_track (State.publishLimit _ _ _) c s.brake)

/-! ### Frames heard -/

theorem State.announce_keepsTracks (e : EntryName) : s.KeepsTracks (s.announce e) := by
  cases e with
  | engineState =>
    exact (s.echoArrival_keepsTracks .engine).trans
      (.of_same (by simp [State.announce]) (by simp [State.announce]) (by simp [State.announce]))
  | brakeState =>
    exact (s.echoArrival_keepsTracks .brake).trans
      (.of_same (by simp [State.announce]) (by simp [State.announce]) (by simp [State.announce]))
  | inertialRates | inertialLean | wheelSpeeds | suspensionState | dashSelect | inertialAccel =>
    exact .of_same (by simp [State.announce]) (by simp [State.announce]) (by simp [State.announce])

theorem State.staleNotice_keepsTracks (e : EntryName) : s.KeepsTracks (s.staleNotice e) := by
  cases e with
  | engineState => exact s.consumerStale_keepsTracks .engine
  | brakeState => exact s.consumerStale_keepsTracks .brake
  | inertialRates | inertialLean | wheelSpeeds | suspensionState | dashSelect | inertialAccel =>
    exact .of_same (by simp [State.staleNotice]) (by simp [State.staleNotice]) (by simp [State.staleNotice])

/-- A chassis reset empties both lists (R169). -/
theorem State.resetMessage_keepsTracks (f : Frame) : s.KeepsTracks (s.resetMessage f) := by
  unfold State.resetMessage
  split
  · refine ⟨fun c _ => ?_, fun hphase => ⟨by simpa using hphase, fun c _ => ?_⟩⟩
    · exact State.resetPublisher_track _ c ▸ Track.initial_inOrder _
    · exact congrArg Track.echoes (State.resetPublisher_track _ c)
  · exact .of_same id le_rfl fun _ => rfl

theorem State.offerEntry_keepsTracks (e : EntryName) (f : Frame) : s.KeepsTracks (s.offerEntry e f) := by
  cases hverdict : (s.topics.get e).judge e (s.binding e) f with
  | malformed =>
    rw [State.offerEntry_of_malformed hverdict]
    exact .of_same id le_rfl fun _ => rfl
  | intruder =>
    rw [State.offerEntry_of_intruder hverdict]
    exact .of_same (by simp) (by simp) (by simp)
  | duplicate =>
    rw [State.offerEntry_of_duplicate hverdict]
    exact .of_same id le_rfl fun _ => rfl
  | accepted =>
    rw [State.offerEntry_of_accepted hverdict]
    have haccepted : s.KeepsTracks (s.accepted e f) :=
      .of_same (by simp [State.accepted]) (by simp [State.accepted]) (s.accepted_onlyAwaits e f).track_eq
    exact haccepted.trans (State.announce_keepsTracks _ e)

theorem State.offerEntries_keepsTracks (f : Frame) (l : List EntryName) : s.KeepsTracks (s.offerEntries f l) := by
  induction l generalizing s with
  | nil => exact .refl s
  | cons e rest ih => exact (s.offerEntry_keepsTracks e f).trans (ih _)

theorem State.handOver_keepsTracks (f : Frame) : s.KeepsTracks (s.handOver f) := by
  unfold State.handOver
  repeat' split
  · exact s.offerEntries_keepsTracks f _
  · exact s.resetMessage_keepsTracks f
  · exact .of_same (by simp) (by simp) fun c => s.serve_track c _
  · exact .of_same id le_rfl fun _ => rfl

theorem State.receive_keepsTracks (heard : Heard) : s.KeepsTracks (s.receive heard) := by
  cases heard with
  | good f =>
    have hslot : s.KeepsTracks (s.driveSlot (s.link.slotFor true)) := .of_same id le_rfl fun _ => rfl
    exact hslot.trans (State.handOver_keepsTracks _ f)
  | badHeader | badLength | badPayload => exact .of_same id le_rfl fun _ => rfl

theorem State.hearFrame_keepsTracks (bits : List Level) : s.KeepsTracks (s.hearFrame bits) := by
  unfold State.hearFrame
  split
  · have hclash : s.KeepsTracks (s.clashTest (parseFrame bits)) := .of_same (by simp) (by simp) (by simp)
    exact hclash.trans (State.receive_keepsTracks _ _)
  · exact .refl s

/-! ### A frame sent -/

/-- A frame is on the wire of a running part alone, so a delivery never meets a list that has to be empty (R18). -/
theorem State.linkInOrder.running_of_wire {s : State} (h : s.linkInOrder) {f : TxFrame} (hf : s.link.wire = some f) :
    s.loader.phase = .running := by
  obtain ⟨hlink, hinactive⟩ := h
  by_contra hphase
  exact absurd ((hinactive hphase).symm.trans (hlink.joined_of_wire hf)) (by decide)

theorem State.limitOutcome_delivered_keepsTracks (f : TxFrame) (hrunning : s.loader.phase = .running) :
    s.KeepsTracks (s.limitOutcome f .delivered) := by
  have hsettled : s.KeepsTracks (s.setPublisher (s.publisher.settle f .delivered)) :=
    .of_same id le_rfl fun c => Publisher.forget_track _ _ c
  rcases s.limitOutcome_delivered_cases f with ⟨-, hu⟩ | ⟨c, a, -, -, hu⟩
  · exact hu ▸ hsettled
  · rw [hu]
    refine hsettled.trans (State.setTrack_keepsTracks _ (fun horder => ?_) fun hphase => absurd hrunning hphase)
    rw [State.setPublisher_publisher, Publisher.settle, Publisher.forget_track] at horder
    exact Track.deliver_inOrder horder rfl

theorem State.slotRead_keepsTracks (first second : Level) (h : s.linkInOrder) :
    s.KeepsTracks (s.slotRead first second) := by
  cases hf : s.link.wire with
  | none =>
    simp only [State.slotRead, hf]
    exact .refl s
  | some f =>
    by_cases ho : slotOutcome first second = .delivered
    · have hend : s.KeepsTracks (s.setLink (s.link.endFrame .delivered)) := .of_same id le_rfl fun _ => rfl
      rw [State.slotRead_eq s hf, if_pos ho, ho]
      exact (hend.trans (State.limitOutcome_delivered_keepsTracks _ f (h.running_of_wire hf))).trans
        (.of_same (by simp) (by simp) (by simp))
    · rw [State.slotRead_eq_failFrame hf ho]
      exact .of_same (by simp [State.failFrame]) (by simp [State.failFrame]) fun c => s.failFrame_track c _ f _

/-! ### The power cycle -/

theorem State.poweredOn_tracksInOrder (m : Memory) (p : List Instr) (d : Nat) :
    (State.poweredOn m p d).tracksInOrder := by
  refine ⟨fun c => ?_, fun _ c => ?_⟩
  · cases c <;> exact Track.initial_inOrder _
  · cases c <;> rfl

/-- Time is counted anew from the completion of the load, and both lists are empty then (R152, R183). -/
theorem State.loadComplete_tracksInOrder (h : s.tracksInOrder) (hphase : s.loader.phase ≠ .running) :
    s.loadComplete.tracksInOrder := by
  obtain ⟨horder, hempty⟩ := h
  refine ⟨fun c => ?_, fun _ c => ?_⟩ <;> rw [State.loadComplete_track]
  · exact Track.inOrder_of_empty _ (horder c) (hempty hphase c)
  · exact hempty hphase c

end

theorem State.takeBurst_phase (s : State) (k : Nat) (min : Option (List Byte)) :
    (s.takeBurst k min).loader.phase = s.loader.phase := rfl

theorem State.pageDone_phase (s : State) (st : Store) (page : Nat) :
    (s.pageDone st page).loader.phase = s.loader.phase := by
  unfold State.pageDone
  dsimp only
  split <;> rfl

/-- The commands that reach a track or set the time back. -/
def reachesTracks : Instr → Bool
  | .powerOn | .profileLoadComplete _ | .frameHeard _ _ | .ackSlotRead _ _ _ | .staleExpiry _ | .regulationStep
  | .brakeStep | .echoDeadlineExpiry _ => true
  | _ => false

section

variable {s t : State} {c : Instr}

theorem exec_keepsTracks_of_not_reaches (hc : reachesTracks c = false) (h : exec c s = .next t) : s.KeepsTracks t := by
  cases c with
  | powerOn | profileLoadComplete | frameHeard | ackSlotRead | staleExpiry | regulationStep | brakeStep
  | echoDeadlineExpiry => cases hc
  | frameStart | arbitrationLoss | collided | mediumIdle =>
    cases h
    exact .of_same (by simp) (by simp) (by simp)
  | gripState =>
    simp only [exec, execGripState] at h
    split at h
    · cases h
      refine .of_same (by simp) (by simp) fun c => (State.offer_track _ _ _ c).trans ?_
      cases c <;> rfl
    · cases h
      exact .refl s
  | muteExpiry | joinWaitExpiry | deadlineExpiry | atRestExpiry | baseValidityExpiry | reliefExpiry
  | assertionEndExpiry | cutPeriodExpiry | ltStatus | windowExpiry =>
    simp only [exec, execMuteExpiry, execJoinWaitExpiry, execDeadlineExpiry, execAtRestExpiry, execBaseValidityExpiry,
      execReliefExpiry, execAssertionEndExpiry, execCutPeriodExpiry, execLtStatus, execWindowExpiry] at h
    split at h
    all_goals
      cases h
      exact .of_same (by simp) (by simp) (by simp [State.tellCut_track])
  | storePageBurstEnd | storePageDone | storePageTimeout | storeReadbackComplete | readBurstEnd =>
    simp only [exec, execStorePageBurstEnd, execStorePageDone, execStorePageTimeout, execStoreReadbackComplete,
      execReadBurstEnd] at h
    repeat' split at h
    all_goals
      cases h
      exact .of_same (by simp_all [State.takeBurst_phase, State.pageDone_phase]) (by simp) (by simp)

theorem exec_tracksInOrder (hlink : s.linkInOrder) (hs : s.tracksInOrder) (h : exec c s = .next t) :
    t.tracksInOrder := by
  have htime : ∀ n, s.now ≤ n → s.KeepsTracks (s.setNow n) := fun n hn => .of_same id hn fun _ => rfl
  cases hc : reachesTracks c with
  | false => exact (exec_keepsTracks_of_not_reaches hc h).tracksInOrder hs
  | true =>
    cases c with
    | powerOn =>
      cases h
      exact State.poweredOn_tracksInOrder _ _ _
    | profileLoadComplete min =>
      simp only [exec, execProfileLoadComplete] at h
      split at h
      · next hphase =>
        cases h
        exact State.loadComplete_tracksInOrder (s.takeBurst 3 min) hs (by simp [State.takeBurst_phase, hphase])
      · cases h
        exact hs
    | frameHeard after bits =>
      cases h
      exact ((htime _ (Nat.le_add_right _ after)).trans (State.hearFrame_keepsTracks _ bits)).tracksInOrder hs
    | ackSlotRead after first second =>
      cases h
      exact ((htime _ (Nat.le_add_right _ after)).trans
        (State.slotRead_keepsTracks (s.elapse after) first second hlink)).tracksInOrder hs
    | staleExpiry e =>
      simp only [exec, execStaleExpiry] at h
      split at h
      · next d _ =>
        cases h
        have hstale : s.KeepsTracks ((s.until d).setEntry e (s.topics.get e).stale) :=
          .of_same id (Nat.le_max_left _ _) fun _ => rfl
        exact (hstale.trans (State.staleNotice_keepsTracks _ e)).tracksInOrder hs
      · cases h
        exact hs
    | regulationStep =>
      cases hdue : s.drive.stepDue with
      | none =>
        rw [exec_regulationStep_of_stopped hdue, Host.Outcome.next.injEq] at h
        exact h ▸ hs
      | some due =>
        rw [exec_regulationStep_of_due hdue, Host.Outcome.next.injEq] at h
        have hstep : s.KeepsTracks (s.atDriveStep due) := .of_same id (Nat.le_max_left _ _) fun _ => rfl
        exact h ▸ (hstep.trans (State.regulationStep_keepsTracks _)).tracksInOrder hs
    | brakeStep =>
      simp only [exec, execBrakeStep] at h
      split at h
      · next due _ =>
        cases h
        have hstep : s.KeepsTracks (s.atBrakeStep due) := .of_same id (Nat.le_max_left _ _) fun _ => rfl
        exact (hstep.trans (State.brakeStep_keepsTracks _)).tracksInOrder hs
      · cases h
        exact hs
    | echoDeadlineExpiry c =>
      simp only [exec, execEchoDeadlineExpiry] at h
      split at h
      · next e rest hechoes =>
        cases h
        refine ((htime _ (Nat.le_max_left _ (e.deliveredAt + echoDeadline))).trans
          (State.setTrack_keepsTracks (s.until (e.deliveredAt + echoDeadline)) Track.deadline_inOrder
            fun _ hempty => ?_)).tracksInOrder hs
        exact absurd (hechoes.symm.trans hempty) (List.cons_ne_nil _ _)
      · cases h
        exact hs
    | _ => cases hc

end

/-- Settles O54: one command keeps both tracks in order; the link's order tells that a delivery comes to a running part
alone. -/
theorem echoListsStayInOrder : Obligations.EchoListsStayInOrder := by
  intro s t hlink hs h
  rcases step_cases h with ⟨c, q, hexec⟩ | rfl
  · exact exec_tracksInOrder (s := s.setPending q) hlink hs hexec
  · exact (State.KeepsTracks.of_same (s := s) (t := s.elapse 1) id (Nat.le_add_right _ _) fun _ => rfl).tracksInOrder hs

end Sys2Proof.Machine
end

section
/-! GRIP_STATE and LT_STATUS: the bytes of their payloads, and the offer of each at the expiry of its timer (R10, R151,
R177, R178, R193, R195). -/

namespace Sys2Proof.Machine

/-! ### Bytes -/

theorem byte_toNat {n : Nat} (h : n < 256) : (BitVec.ofNat 8 n).toNat = n := by
  rw [BitVec.toNat_ofNat]
  omega

theorem word_toNat {n : Nat} (h : n < 65536) :
    256 * (BitVec.ofNat 8 (n / 256)).toNat + (BitVec.ofNat 8 n).toNat = n := by
  rw [u16_toNat]
  omega

/-! ### GRIP_STATE -/

/-- The three flags of a budget record as bits 0 to 2 (R195). -/
def BudgetRecord.flagBits (b : BudgetRecord) : Nat :=
  b.saturated.toNat + 2 * b.transferUnknown.toNat + 4 * b.rearLight.toNat

theorem BudgetRecord.flagBits_eq (b : BudgetRecord) :
    b.flagBits =
      (if b.saturated then 1 else 0) + (if b.transferUnknown then 2 else 0) + (if b.rearLight then 4 else 0) := by
  unfold BudgetRecord.flagBits
  simp only [Bool.toNat, cond_eq_ite]
  split_ifs <;> rfl

/-- Either half of the status byte stands in its own bits (R195). -/
theorem gripStatusByte_halves (lean : Option LeanRecord) (budget : Option BudgetRecord) :
    gripStatusByte lean budget % 8 = (lean.map fun r => r.status.code).getD 7 ∧
      gripStatusByte lean budget / 8 =
        (budget.map BudgetRecord.flagBits).getD 8 ∧
      gripStatusByte lean budget < 256 := by
  have hlean : ∃ x, (lean.map fun r => r.status.code).getD 7 = x ∧ x < 8 ∧
      gripStatusByte lean budget = x + gripStatusByte none budget - 7 := by
    cases lean with
    | none => exact ⟨7, rfl, by decide, by omega⟩
    | some r =>
      refine ⟨r.status.code, rfl, ?_, ?_⟩
      · cases r.status <;> decide
      · unfold gripStatusByte
        dsimp only
        omega
  obtain ⟨x, hx, hlt, hbyte⟩ := hlean
  rw [hx, hbyte]
  cases budget with
  | none =>
    simp only [gripStatusByte, Option.map_none, Option.getD_none]
    omega
  | some b =>
    have hbits := b.saturated.toNat_le
    have hbits' := b.transferUnknown.toNat_le
    have hbits'' := b.rearLight.toNat_le
    simp only [gripStatusByte, BudgetRecord.flagBits, Option.map_some, Option.getD_some]
    omega

section

variable (s : State)

theorem State.gripStatePayload_lean :
    256 * (s.gripStatePayload.getD 0 0).toNat + (s.gripStatePayload.getD 1 0).toNat =
      (((s.estimator.latest.map LeanRecord.published).getD (-32768)) % 65536).toNat :=
  word_toNat (by omega)

theorem State.gripStatePayload_status :
    (s.gripStatePayload.getD 2 0).toNat = gripStatusByte s.estimator.latest s.grip.latest :=
  byte_toNat (gripStatusByte_halves _ _).2.2

theorem State.gripStatePayload_band : (s.gripStatePayload.getD 3 0).toNat =
    (BitVec.ofNat 8 ((s.grip.latest.map BudgetRecord.band).getD 0xFF)).toNat := rfl

theorem State.gripStatePayload_age : (s.gripStatePayload.getD 4 0).toNat =
    (BitVec.ofNat 8 ((s.grip.latest.map fun b => min 254 (s.budgetAge b / 10)).getD 0xFF)).toNat := rfl

theorem State.gripStatePayload_driveLimit :
    256 * (s.gripStatePayload.getD 5 0).toNat + (s.gripStatePayload.getD 6 0).toNat =
      (s.grip.latest.map BudgetRecord.driveGripLimit).getD 0xFFFF % 65536 := u16_toNat _

theorem State.gripStatePayload_frontLimit :
    256 * (s.gripStatePayload.getD 7 0).toNat + (s.gripStatePayload.getD 8 0).toNat =
      (s.grip.latest.map BudgetRecord.frontLimit).getD 0xFFFF % 65536 := u16_toNat _

theorem State.gripStatePayload_rearLimit :
    256 * (s.gripStatePayload.getD 9 0).toNat + (s.gripStatePayload.getD 10 0).toNat =
      (s.grip.latest.map BudgetRecord.rearLimit).getD 0xFFFF % 65536 := u16_toNat _

theorem State.gripStatePayload_congr {s t : State} (hnow : t.now = s.now) (hestimator : t.estimator = s.estimator)
    (hgrip : t.grip = s.grip) : t.gripStatePayload = s.gripStatePayload := by
  simp only [State.gripStatePayload, State.budgetAge, State.stamp, hnow, hestimator, hgrip]

end

/-! ### LT_STATUS -/

/-- The number whose bits are the given flags, the first one bit 0. -/
def wordOfFlags (flags : List Bool) : Nat := flags.foldr (fun b acc => b.toNat + 2 * acc) 0

theorem wordOfFlags_cons (b : Bool) (flags : List Bool) : wordOfFlags (b :: flags) = Nat.bit b (wordOfFlags flags) := by
  rw [Nat.bit_val, Nat.add_comm]
  rfl

theorem wordOfFlags_testBit (flags : List Bool) (k : Nat) : (wordOfFlags flags).testBit k = flags[k]?.getD false := by
  induction flags generalizing k with
  | nil => simp [wordOfFlags]
  | cons b rest ih =>
    rw [wordOfFlags_cons]
    cases k with
    | zero => simp
    | succ k => simpa [Nat.testBit_bit_succ] using ih k

theorem wordOfFlags_lt (flags : List Bool) : wordOfFlags flags < 2 ^ flags.length := by
  induction flags with
  | nil => exact Nat.one_pos
  | cons b rest ih =>
    have hb := b.toNat_le
    rw [wordOfFlags_cons, Nat.bit_val, List.length_cons, Nat.pow_succ]
    omega

theorem FaultSet.latchedWord_eq (t : FaultSet) :
    t.latchedWord = wordOfFlags (Fault12.all.map fun f => (t.get f).latched) := by
  rw [wordOfFlags, List.foldr_map]
  rfl

/-- Bit k of the fault set word is the latched mark of the k-th fault (R193). -/
theorem FaultSet.latchedWord_testBit (t : FaultSet) {k : Nat} {f : Fault12} (h : Fault12.all[k]? = some f) :
    t.latchedWord.testBit k = (t.get f).latched := by
  rw [t.latchedWord_eq, wordOfFlags_testBit, List.getElem?_map, h]
  rfl

theorem FaultSet.latchedWord_lt (t : FaultSet) : t.latchedWord < 4096 := by
  have hlt := wordOfFlags_lt (Fault12.all.map fun f => (t.get f).latched)
  rwa [← t.latchedWord_eq, List.length_map] at hlt

/-- Both channels are INHIBITED, the first line of the table of R177. -/
def Monitor.allInhibited (m : Monitor) : Prop :=
  m.driveState = .inhibited ∧ m.frontWheel = .inhibited ∧ m.rearWheel = .inhibited

/-- A channel is INHIBITED, the drive path is CUT_LINE, or the lean is degraded: the second line of the table. -/
def State.reduces (s : State) : Prop :=
  s.monitor.driveState = .inhibited ∨ s.monitor.frontWheel = .inhibited ∨ s.monitor.rearWheel = .inhibited ∨
    s.monitor.drivePath = .cutLine ∨
      ∀ r, s.estimator.latest = some r → r.status = .single ∨ r.status = .lost

/-- A lean counts as degraded without a record, and with one of status SINGLE or LOST (R177). -/
theorem leanDegraded_iff (lean : Option LeanRecord) :
    leanDegraded lean = true ↔ ∀ r, lean = some r → r.status = .single ∨ r.status = .lost := by
  cases lean <;> simp [leanDegraded]

section

variable (s : State)

theorem State.level_of_allInhibited (h : s.monitor.allInhibited) : s.level = .inhibited := if_pos h

theorem State.level_of_reduces (h : ¬s.monitor.allInhibited) (hr : s.reduces) : s.level = .reduced := by
  refine (if_neg h).trans (if_pos ?_)
  rwa [leanDegraded_iff]

theorem State.level_of_normal (h : ¬s.monitor.allInhibited) (hr : ¬s.reduces) : s.level = .normal := by
  refine (if_neg h).trans (if_neg ?_)
  rwa [leanDegraded_iff]

theorem State.ltStatusPayload_faults :
    256 * (s.ltStatusPayload.getD 0 0).toNat + (s.ltStatusPayload.getD 1 0).toNat = s.monitor.faults.latchedWord :=
  word_toNat (s.monitor.faults.latchedWord_lt.trans (by decide))

theorem State.ltStatusPayload_lamp : (s.ltStatusPayload.getD 2 0).toNat = s.monitor.lamp.code := by
  refine byte_toNat ?_
  cases s.monitor.lamp <;> decide

theorem State.ltStatusPayload_level : (s.ltStatusPayload.getD 3 0).toNat = s.level.code := by
  refine byte_toNat ?_
  cases s.level <;> decide

theorem State.ltStatusPayload_path : (s.ltStatusPayload.getD 4 0).toNat = s.monitor.drivePath.code := by
  refine byte_toNat ?_
  cases s.monitor.drivePath <;> decide

theorem State.ltStatusPayload_mode : (s.ltStatusPayload.getD 5 0).toNat = s.selector.mode.number := by
  refine byte_toNat ?_
  cases s.selector.mode <;> decide

/-- An LT_STATUS offer changes nothing of what it carries. -/
theorem State.offerLtStatus_payload : s.offerLtStatus.ltStatusPayload = s.ltStatusPayload := by
  unfold State.ltStatusPayload State.level
  rw [State.offerLtStatus_monitor, State.offerLtStatus_estimator, State.offerLtStatus_selector]
  rfl

end

/-! ### The offers -/

/-- With room in the queue, or a frame of its topic in it, an accepted frame waits (R10). -/
theorem Link.offer_waits {l : Link} (h : l.inOrder) (ha : l.accepts) (hroom : l.queue.length ≤ 3) (t : TxTopic)
    (p : List Byte) : (⟨t, l.seqs.get t + 1, p⟩ : TxFrame) ∈ (l.offer t p).1.queue := by
  obtain ⟨hq, -⟩ := h
  by_cases hnew : ∀ g ∈ l.queue, g.topic ≠ t
  · rw [Link.offer_of_new p ha hnew, Link.enqueue_of_room (l := l.takeSeq t) _ hroom]
    exact (insertFrame_perm _ _).mem_iff.mpr List.mem_cons_self
  · obtain ⟨g, hg, htopic⟩ : ∃ g ∈ l.queue, g.topic = t := by simpa using hnew
    rw [Link.offer_of_waiting p ha (htopic ▸ waitingOf_of_mem hq hg)]
    exact (replaceFrame_perm hq hg htopic).mem_iff.mpr List.mem_cons_self

theorem Link.offer_dropped_of_muted {l : Link} (t : TxTopic) (p : List Byte) (h : l.state = .muted) :
    (l.offer t p).1.counters.dropped = bump l.counters.dropped := by
  rw [Link.offer_of_muted t p h]
  rfl

section

variable {s : State} {d : Nat}

/-- The state at the expiry of the GRIP_STATE timer, the offer apart: the timer runs again (R151). -/
def State.atGripState (s : State) (d : Nat) : State :=
  (s.until d).setPublisher { s.publisher with gripStateDue := some (max s.now d + 200) }

theorem exec_gripState_of_due (h : s.publisher.gripStateDue = some d) :
    exec .gripState s = .next ((s.atGripState d).offer .gripState (s.atGripState d).gripStatePayload) := by
  simp only [exec, execGripState, h]
  rfl

/-- The state at the expiry of the LT_STATUS timer, the offer apart: the timer runs again (R178). -/
def State.atLtStatus (s : State) (d : Nat) : State :=
  (s.until d).setMonitor { s.monitor with ltStatusDue := some (max s.now d + 1000) }

theorem exec_ltStatus_of_due (h : s.monitor.ltStatusDue = some d) :
    exec .ltStatus s = .next (s.atLtStatus d).offerLtStatus := by
  simp only [exec, execLtStatus, h]
  rfl

theorem State.offerLtStatus_link (h : s.link.state ≠ .inactive) :
    s.offerLtStatus.link = (s.link.offer .ltStatus s.ltStatusPayload).1 := by
  rw [State.offerLtStatus, if_neg h]
  rfl

end

/-- Settles O51: the payloads byte by byte, and each expiry as a restarted timer and one offer. -/
theorem periodicFramesAreOffered : Obligations.PeriodicFramesAreOffered := by
  refine ⟨fun t => ?_, fun t => ?_, fun s d hin => ⟨fun hdue => ?_, fun hdue => ?_⟩⟩
  · obtain ⟨hlean, hbudget, -⟩ := gripStatusByte_halves t.estimator.latest t.grip.latest
    dsimp only
    rw [t.gripStatePayload_status, t.gripStatePayload_lean, t.gripStatePayload_band, t.gripStatePayload_age,
      t.gripStatePayload_driveLimit, t.gripStatePayload_frontLimit, t.gripStatePayload_rearLimit, hlean, hbudget]
    refine ⟨fun h => ?_, fun r h => ?_, fun h => ?_, fun b h hb => ?_⟩ <;> rw [h]
    · exact ⟨rfl, rfl⟩
    · refine ⟨Int.toNat_of_nonneg (Int.emod_nonneg _ (by decide)), ?_⟩
      cases hstatus : r.status <;> simp [hstatus, LeanStatus.code]
    · exact ⟨rfl, rfl, rfl, rfl, rfl, rfl⟩
    · obtain ⟨hband, -, -, -, -, -, -, -, -, hdrive, hfront, hrear, -⟩ := hb
      refine ⟨b.flagBits_eq, byte_toNat (hband.trans_lt (by decide)),
        byte_toNat ((Nat.min_le_left _ _).trans_lt (by decide)), ?_, ?_, ?_⟩
      · exact Nat.mod_eq_of_lt (hdrive.trans_lt (by decide))
      · exact Nat.mod_eq_of_lt (hfront.trans_lt (by decide))
      · exact Nat.mod_eq_of_lt (hrear.trans_lt (by decide))
  · intro p byte m degraded
    have hlevel : byte 3 = t.level.code := t.ltStatusPayload_level
    rw [hlevel, show 256 * byte 0 + byte 1 = _ from t.ltStatusPayload_faults]
    refine ⟨fun k f h => m.faults.latchedWord_testBit h, m.faults.latchedWord_lt, ?_,
      fun h => congrArg Level3.code (t.level_of_allInhibited h),
      fun h => ⟨fun hr => congrArg Level3.code (t.level_of_reduces h hr),
        fun hr => congrArg Level3.code (t.level_of_normal h hr)⟩, ?_, ?_⟩
    · refine t.ltStatusPayload_lamp.trans ?_
      cases t.monitor.lamp <;> rfl
    · refine t.ltStatusPayload_path.trans ?_
      cases t.monitor.drivePath <;> rfl
    · refine t.ltStatusPayload_mode.trans ?_
      cases t.selector.mode <;> rfl
  · let v : State := s.atGripState d
    have hpayload : (v.offer .gripState v.gripStatePayload).gripStatePayload = v.gripStatePayload :=
      State.gripStatePayload_congr rfl rfl rfl
    refine ⟨v.offer .gripState v.gripStatePayload, exec_gripState_of_due hdue, rfl, rfl, rfl, rfl, rfl, fun ha hroom => ?_,
      fun hmuted => Link.offer_dropped_of_muted _ _ hmuted, v.offer_onlyOffers _ _, ?_⟩
    · rw [hpayload]
      exact Link.offer_waits hin ha hroom .gripState _
    · intro p hp
      cases p <;> simp_all [State.agreesOn, v, State.atGripState]
  · let v : State := s.atLtStatus d
    have hlink : s.link.state ≠ .inactive → v.offerLtStatus.link = (s.link.offer .ltStatus v.ltStatusPayload).1 :=
      State.offerLtStatus_link (s := v)
    have hmonitor := v.offerLtStatus_monitor
    refine ⟨v.offerLtStatus, exec_ltStatus_of_due hdue, v.offerLtStatus_now, ?_, v.offerLtStatus_faults,
      v.offerLtStatus_lamp, rfl, fun ha hroom => ?_, fun hmuted => ?_, v.offerLtStatus_onlyOffers,
      v.offerLtStatus_onlyAwaits, ?_⟩
    · rw [hmonitor, v.offerLtStatus_now]
      rfl
    · rw [hlink (by rcases ha with ha | ha <;> simp [ha]), v.offerLtStatus_payload]
      exact Link.offer_waits hin ha hroom .ltStatus _
    · rw [hlink (by simp [hmuted])]
      exact Link.offer_dropped_of_muted _ _ hmuted
    · intro p hp
      cases p <;> simp_all [State.agreesOn, v, State.atLtStatus]

end Sys2Proof.Machine
end

section
/-! The Fault Monitor's own operations: a condition report and the CLEAR_FAULTS request (R172, R174, R176, R190). -/

namespace Sys2Proof.Machine

/-! ### Marks -/

/-- A report of a condition that becomes active latches the fault and counts it, unless it was active (R172). -/
theorem FaultMark.reported_true (m : FaultMark) :
    m.reported true = if m.active then m else ⟨true, true, min 255 (m.count + 1)⟩ := rfl

/-- A report of a condition that ends takes the active mark alone (R172). -/
theorem FaultMark.reported_false (m : FaultMark) : m.reported false = ⟨false, m.latched, m.count⟩ := rfl

/-- The clear takes the latched mark of an inactive fault and nothing else (R174). -/
theorem FaultMark.cleared_eq (m : FaultMark) : m.cleared = if m.active then m else ⟨false, false, m.count⟩ := by
  unfold FaultMark.cleared
  split
  · rfl
  · next hinactive => rw [Bool.eq_false_of_not_eq_true hinactive]

section

variable (s : State)

/-! ### The lamp and the answer to a request -/

theorem State.setMonitor_onlyChanges (m : Monitor) : s.onlyChanges (s.setMonitor m) [.monitor] := by
  intro p hp
  cases p <;> simp_all [State.agreesOn]

/-- A re-evaluation of the lamp reaches the Monitor and, by the frame of a lamp change, link and publisher (R176). -/
theorem State.refreshLamp_onlyChanges : s.onlyChanges s.refreshLamp [.link, .publisher, .monitor] := by
  intro p hp
  cases p <;> simp_all [State.agreesOn]

/-- A change of the Monitor and the lamp brought up to date with it. -/
theorem State.setMonitor_refreshLamp_onlyChanges (m : Monitor) :
    s.onlyChanges (s.setMonitor m).refreshLamp [.link, .publisher, .monitor] :=
  State.onlyChanges_trans (State.onlyChanges_mono (s.setMonitor_onlyChanges m) (by decide))
    (s.setMonitor m).refreshLamp_onlyChanges

theorem State.answer_responder (r : Request) (status : ServiceStatus) (data : List Byte) :
    (s.answer r status data).responder = { s.responder with replies := bump s.responder.replies } := rfl

/-- An answer is one offer of a SERVICE_REPLY frame to the link (R185). -/
theorem State.answer_link (r : Request) (status : ServiceStatus) (data : List Byte) :
    (s.answer r status data).link =
      (s.offer .serviceReply (replyPayload r.tag r.record r.offset status data)).link := rfl

/-! ### Condition reports -/

theorem State.report_mark (f : Fault12) (b : Bool) :
    (s.report f b).monitor.faults.get f = (s.monitor.faults.get f).reported b := by
  rw [State.report_faults, FaultSet.get_set_self]

theorem State.report_other (f : Fault12) (b : Bool) {g : Fault12} (h : g ≠ f) :
    (s.report f b).monitor.faults.get g = s.monitor.faults.get g := by
  rw [State.report_faults, FaultSet.get_set_other _ _ h]

theorem State.report_lampTrue (f : Fault12) (b : Bool) : (s.report f b).lampTrue :=
  State.refreshLamp_lampTrue (s.setMonitor _)

theorem State.report_onlyChanges (f : Fault12) (b : Bool) :
    s.onlyChanges (s.report f b) [.link, .publisher, .monitor] := s.setMonitor_refreshLamp_onlyChanges _

/-! ### CLEAR_FAULTS -/

/-- The state that a CLEAR_FAULTS request is answered from: marks cleared, request counted, lamp re-evaluated (R174). -/
def State.clearedFaults (s : State) : State :=
  (s.setMonitor
    { s.monitor with
      faults := s.monitor.faults.cleared
      clearRequests := bump s.monitor.clearRequests }).refreshLamp

/-- The request clears and then answers with the latched set that remains (R190). -/
theorem State.serveClear_eq (r : Request) :
    s.serveClear r = s.clearedFaults.answer r .ok (u16 s.clearedFaults.monitor.faults.latchedWord) := rfl

theorem State.clearedFaults_mark (f : Fault12) :
    s.clearedFaults.monitor.faults.get f = (s.monitor.faults.get f).cleared := by
  rw [State.clearedFaults, State.refreshLamp_faults, State.setMonitor_monitor, FaultSet.get_cleared]

theorem State.clearedFaults_clearRequests :
    s.clearedFaults.monitor.clearRequests = bump s.monitor.clearRequests := by
  rw [State.clearedFaults, State.refreshLamp_monitor, State.setMonitor_monitor]

theorem State.clearedFaults_lampTrue : s.clearedFaults.lampTrue := State.refreshLamp_lampTrue (s.setMonitor _)

theorem State.clearedFaults_onlyOffers : s.link.onlyOffers s.clearedFaults.link :=
  State.refreshLamp_onlyOffers (s.setMonitor _)

theorem State.clearedFaults_responder : s.clearedFaults.responder = s.responder :=
  State.refreshLamp_responder (s.setMonitor _)

theorem State.clearedFaults_onlyChanges : s.onlyChanges s.clearedFaults [.link, .publisher, .monitor] :=
  s.setMonitor_refreshLamp_onlyChanges _

theorem State.serveClear_monitor (r : Request) : (s.serveClear r).monitor = s.clearedFaults.monitor := by
  rw [State.serveClear_eq, State.answer_monitor]

theorem State.serveClear_lampTrue (r : Request) : (s.serveClear r).lampTrue := by
  rw [State.lampTrue, State.serveClear_monitor]
  exact s.clearedFaults_lampTrue

theorem State.serveClear_onlyChanges (r : Request) :
    s.onlyChanges (s.serveClear r) [.link, .publisher, .monitor, .responder] :=
  State.onlyChanges_trans (State.onlyChanges_mono s.clearedFaults_onlyChanges (by decide))
    (State.onlyChanges_mono (s.clearedFaults.answer_onlyChanges r _ _) (by decide))

end

/-- The two bytes of a fault set, most significant first, carry the latched mark of the k-th fault as bit k (R193). -/
theorem FaultSet.latchedBytes_testBit (t : FaultSet) {k : Nat} {g : Fault12} (h : Fault12.all[k]? = some g) :
    (256 * (BitVec.ofNat 8 (t.latchedWord / 256)).toNat + (BitVec.ofNat 8 t.latchedWord).toNat).testBit k =
      (t.get g).latched := by
  rw [word_toNat (t.latchedWord_lt.trans (by decide)), t.latchedWord_testBit h]

/-- Settles O59: the report by what it makes of the marks of its fault, the request as a clear of all marks and then an
answer with the latched set that remains. -/
theorem faultsAreLatchedAndCleared : Obligations.FaultsAreLatchedAndCleared := by
  intro s f m
  refine ⟨?_, ?_, fun b g hg => s.report_other f b hg,
    fun b => ⟨s.report_lampTrue f b, s.report_onlyChanges f b⟩, fun r => ?_⟩
  · rw [s.report_mark, FaultMark.reported_true]
  · rw [s.report_mark, FaultMark.reported_false]
  · let u : State := s.clearedFaults
    let word : Nat := u.monitor.faults.latchedWord
    refine ⟨?_, s.serveClear_lampTrue r, ?_, ?_,
      ⟨u, BitVec.ofNat 8 (word / 256), BitVec.ofNat 8 word, s.clearedFaults_onlyOffers,
        u.answer_link r .ok (u16 word), fun k g hk => ?_⟩, s.serveClear_onlyChanges r⟩
    · rw [s.serveClear_monitor, s.clearedFaults_mark, FaultMark.cleared_eq]
    · rw [s.serveClear_monitor, s.clearedFaults_clearRequests]
    · rw [s.serveClear_eq, State.answer_responder, s.clearedFaults_responder]
    · rw [s.serveClear_monitor]
      exact u.monitor.faults.latchedBytes_testBit hk

end Sys2Proof.Machine
end

section
/-! SUPPORT. The pages of the byte stores: what a read burst, a page done and an interrupted page make of the 64 bytes
of their page and of every other byte, and that each keeps the canonical form (R180, R188, R189). -/

namespace Sys2Proof.Machine

/-! ### One page -/

/-- Sixty-four bytes written at a page leave every other page alone. -/
theorem Memory.writePage_agreeOutsidePage (m : Memory) (p : Nat) {l : List Byte} (hl : l.length = 64) :
    agreeOutsidePage m (m.writeBytes (64 * p) l) p :=
  fun a ha => Memory.read_writeBytes_other m _ a l (by omega)

theorem Memory.read_writePage {m : Memory} (h : m.wf) (p : Nat) {l : List Byte} {i : Nat} (hi : i < l.length) :
    (m.writeBytes (64 * p) l).read (64 * p + i) = l[i] := Memory.read_writeBytes_same h _ i l hi

section

variable (s : State)

/-! ### A read burst -/

@[simp] theorem State.length_burstBytes (k : Nat) (min : Option (List Byte)) : (s.burstBytes k min).length = 64 := by
  cases min <;> simp [State.burstBytes]

/-- Without bytes on MIN in its place a burst carries the page of the serial memory (R180). -/
theorem State.burstBytes_none (k : Nat) {i : Nat} (hi : i < (s.burstBytes k none).length) :
    (s.burstBytes k none)[i] = s.memory.read (64 * k + i) := Memory.getElem_readBytes _ _ _ _ _

/-- A burst carries the bytes of MIN, and erased bytes past their end (R180; log entry 2). -/
theorem State.burstBytes_some (k : Nat) (bytes : List Byte) {i : Nat} (hi : i < (s.burstBytes k (some bytes)).length) :
    (s.burstBytes k (some bytes))[i] = bytes.getD i erasedByte := by
  simp only [State.burstBytes, List.getElem_take, List.getElem_append, List.getElem_replicate]
  split
  · next h => exact (List.getD_eq_getElem _ _ h).symm
  · next h => exact (List.getD_eq_default _ _ (Nat.le_of_not_lt h)).symm

theorem State.takeBurst_loader (k : Nat) (min : Option (List Byte)) :
    (s.takeBurst k min).loader =
      { s.loader with
        readImage := s.loader.readImage.writeBytes (64 * k) (s.burstBytes k min)
        burstEnded := some s.now } := rfl

theorem State.takeBurst_pageFromBurst (k : Nat) (min : Option (List Byte)) (h : s.loader.readImage.wf) :
    pageFromBurst s.memory (s.takeBurst k min).loader.readImage k min := by
  intro i hi
  rw [State.takeBurst_loader, Memory.read_writePage h k (by rwa [State.length_burstBytes])]
  cases min with
  | none => exact s.burstBytes_none k _
  | some bytes => exact s.burstBytes_some k bytes _

theorem State.takeBurst_agreeOutsidePage (k : Nat) (min : Option (List Byte)) :
    agreeOutsidePage s.loader.readImage (s.takeBurst k min).loader.readImage k :=
  Memory.writePage_agreeOutsidePage _ k (s.length_burstBytes k min)

/-! ### A page of the serial memory -/

theorem State.spoilPage_memory (p : Nat) :
    (s.spoilPage p).memory =
      s.memory.writeBytes (64 * p)
        ((List.range 64).map fun i => Config.interruptedPageByte s.draws (64 * p + i)) := by
  rw [State.spoilPage, State.setDraws_memory, State.setMemory_memory]

theorem State.spoilPage_agreeOutsidePage (p : Nat) : agreeOutsidePage s.memory (s.spoilPage p).memory p := by
  rw [State.spoilPage_memory]
  exact Memory.writePage_agreeOutsidePage _ p (by simp)

theorem State.pageDone_memory (st : Store) (p : Nat) :
    (s.pageDone st p).memory =
      s.memory.writeBytes (64 * p) (s.responder.pendingImage.readBytes (64 * p) 64) := by
  unfold State.pageDone
  dsimp only
  split <;> simp

/-- The image being read is emptied for the read-back that follows the last page (R188). -/
theorem State.pageDone_loader (st : Store) (p : Nat) :
    (s.pageDone st p).loader = if p < 3 then s.loader else { s.loader with readImage := [], burstEnded := none } := by
  unfold State.pageDone
  dsimp only
  split <;> simp

/-- The next page's burst or the read-back begins (R188). -/
theorem State.pageDone_responder (st : Store) (p : Nat) :
    (s.pageDone st p).responder =
      { s.responder with
        store := some { st with stage := if p < 3 then .pageBurst (p + 1) else .readBack 0 } } := by
  unfold State.pageDone
  dsimp only
  split <;> rfl

theorem State.pageDone_agreeOutsidePage (st : Store) (p : Nat) :
    agreeOutsidePage s.memory (s.pageDone st p).memory p := by
  rw [State.pageDone_memory]
  exact Memory.writePage_agreeOutsidePage _ p (Memory.length_readBytes _ _ _)

/-- A page done is held by the serial memory as the pending image has it (R188). -/
theorem State.pageDone_page (st : Store) (p : Nat) (h : s.memory.wf) {i : Nat} (hi : i < 64) :
    (s.pageDone st p).memory.read (64 * p + i) = s.responder.pendingImage.read (64 * p + i) := by
  rw [State.pageDone_memory, Memory.read_writePage h p (by rwa [Memory.length_readBytes]), Memory.getElem_readBytes]

end

end Sys2Proof.Machine
end

section
/-! The byte stores keep their canonical form and the running profile its ranges: a store is written in its canonical
form only, and every profile that comes to run is the one that an image gives (R181..R183, R187, R188). -/

namespace Sys2Proof.Machine

section

variable {s t : State}

/-- What one step is to keep: the canonical form of the three byte stores and the ranges of the running profile. -/
def State.storesSound (s : State) : Prop := s.storesWf ∧ s.profile.inRange

theorem State.storesSound_congr (hmemory : t.memory = s.memory) (hloader : t.loader = s.loader)
    (hpending : t.responder.pendingImage = s.responder.pendingImage) (h : s.storesSound) : t.storesSound := by
  rwa [State.storesSound, State.storesWf, State.profile, hmemory, hloader, hpending]

/-! ### Frames -/

theorem State.windowArrival_pendingImage (s : State) :
    s.windowArrival.responder.pendingImage = s.responder.pendingImage := by
  unfold State.windowArrival
  split
  · split <;> rfl
  · rfl

theorem State.announce_pendingImage (s : State) (e : EntryName) :
    (s.announce e).responder.pendingImage = s.responder.pendingImage := by
  cases e with
  | wheelSpeeds => exact (State.windowArrival_pendingImage s.latchArrival).trans (by simp)
  | inertialRates | inertialAccel | inertialLean | engineState | brakeState | suspensionState | dashSelect =>
    simp [State.announce]

theorem State.offerEntry_pendingImage (s : State) (e : EntryName) (f : Frame) :
    (s.offerEntry e f).responder.pendingImage = s.responder.pendingImage := by
  cases hverdict : (s.topics.get e).judge e (s.binding e) f with
  | malformed => simp [State.offerEntry_of_malformed hverdict]
  | intruder => simp [State.offerEntry_of_intruder hverdict]
  | duplicate => simp [State.offerEntry_of_duplicate hverdict]
  | accepted =>
    rw [State.offerEntry_of_accepted hverdict, State.announce_pendingImage]
    simp [State.accepted]

theorem State.offerEntries_pendingImage (s : State) (f : Frame) (l : List EntryName) :
    (s.offerEntries f l).responder.pendingImage = s.responder.pendingImage := by
  induction l generalizing s with
  | nil => rfl
  | cons e rest ih => exact (ih _).trans (State.offerEntry_pendingImage s e f)

/-! ### Requests -/

theorem State.answer_pendingImage (s : State) (r : Request) (status : ServiceStatus) (data : List Byte) :
    (s.answer r status data).responder.pendingImage = s.responder.pendingImage := rfl

theorem State.serveRead_pendingImage (s : State) (r : Request) :
    (s.serveRead r).responder.pendingImage = s.responder.pendingImage := by
  obtain ⟨status, data, hanswer⟩ := s.serveRead_answers r
  rw [hanswer, State.answer_pendingImage]

theorem State.serveWrite_pendingImage_wf (r : Request) (h : s.responder.pendingImage.wf) :
    (s.serveWrite r).responder.pendingImage.wf := by
  unfold State.serveWrite
  dsimp only
  repeat' split
  · exact h
  · exact h
  · exact h
  · exact Memory.writeBytes_wf h _ _

theorem State.serveStore_pendingImage_wf (r : Request) (h : s.responder.pendingImage.wf) :
    (s.serveStore r).responder.pendingImage.wf := by
  unfold State.serveStore
  split
  · exact Memory.writeBytes_wf h _ _
  · exact h

theorem State.serveClear_pendingImage (s : State) (r : Request) :
    (s.serveClear r).responder.pendingImage = s.responder.pendingImage := by
  rw [s.serveClear_eq, State.answer_pendingImage, s.clearedFaults_responder]

theorem State.serveTest_pendingImage (s : State) (r : Request) :
    (s.serveTest r).responder.pendingImage = s.responder.pendingImage := by
  unfold State.serveTest
  split <;> rfl

/-- Of the kinds of request WRITE_MASKED writes a word of the pending image and STORE_PROFILE its code (R187, R188). -/
theorem State.judgeRequest_pendingImage_wf (r : Request) (h : s.responder.pendingImage.wf) :
    (s.judgeRequest r).responder.pendingImage.wf := by
  unfold State.judgeRequest State.serveKind
  repeat' split
  · exact h
  · exact s.serveRead_pendingImage r ▸ h
  · exact h
  · exact h
  · exact State.serveWrite_pendingImage_wf r h
  · exact State.serveStore_pendingImage_wf r h
  · exact s.serveClear_pendingImage r ▸ h
  · exact s.serveTest_pendingImage r ▸ h

theorem State.serve_pendingImage_wf (p : List Byte) (h : s.responder.pendingImage.wf) :
    (s.serve p).responder.pendingImage.wf := by
  unfold State.serve
  dsimp only
  split
  · exact h
  · exact State.judgeRequest_pendingImage_wf _ h

/-! ### The receive path -/

theorem State.handOver_pendingImage_wf (f : Frame) (h : s.responder.pendingImage.wf) :
    (s.handOver f).responder.pendingImage.wf := by
  unfold State.handOver
  split
  · rwa [State.offerEntries_pendingImage]
  · split
    · rwa [State.resetMessage_responder]
    · split
      · exact State.serve_pendingImage_wf _ h
      · exact h

theorem State.receive_pendingImage_wf (heard : Heard) (h : s.responder.pendingImage.wf) :
    (s.receive heard).responder.pendingImage.wf := by
  cases heard with
  | good f => exact State.handOver_pendingImage_wf (s := s.driveSlot _) f h
  | badHeader | badLength | badPayload => exact h

theorem State.hearFrame_pendingImage_wf (bits : List Level) (h : s.responder.pendingImage.wf) :
    (s.hearFrame bits).responder.pendingImage.wf := by
  unfold State.hearFrame
  split
  · dsimp only
    exact State.receive_pendingImage_wf _ (by rwa [State.clashTest_responder])
  · exact h

theorem State.hearFrame_storesSound (bits : List Level) (h : s.storesSound) : (s.hearFrame bits).storesSound := by
  obtain ⟨⟨hmemory, hread, hpending⟩, hprofile⟩ := h
  rw [State.storesSound, State.storesWf, State.profile, State.hearFrame_memory, State.hearFrame_loader]
  exact ⟨⟨hmemory, hread, State.hearFrame_pendingImage_wf bits hpending⟩, hprofile⟩

/-! ### Power-on, the load and the store -/

theorem State.poweredOn_storesSound {m : Memory} (p : List Instr) (d : Nat) (h : m.wf) :
    (State.poweredOn m p d).storesSound :=
  ⟨⟨h, Memory.nil_wf, Memory.nil_wf⟩, fallbackProfile_inRange⟩

theorem State.spoilPage_storesSound (p : Nat) (h : s.storesSound) : (s.spoilPage p).storesSound := by
  obtain ⟨⟨hmemory, hread, hpending⟩, hprofile⟩ := h
  rw [State.storesSound, State.storesWf, State.profile, State.spoilPage_memory, State.spoilPage_loader,
    State.spoilPage_responder]
  exact ⟨⟨Memory.writeBytes_wf hmemory _ _, hread, hpending⟩, hprofile⟩

theorem State.powerOn_storesSound (h : s.storesSound) : s.powerOn.storesSound := by
  unfold State.powerOn
  split
  · exact State.poweredOn_storesSound _ _ (State.spoilPage_storesSound _ h).1.1
  · exact State.poweredOn_storesSound _ _ (State.spoilPage_storesSound _ h).1.1
  · exact State.poweredOn_storesSound _ _ h.1.1

theorem State.takeBurst_storesSound (k : Nat) (min : Option (List Byte)) (h : s.storesSound) :
    (s.takeBurst k min).storesSound := by
  obtain ⟨⟨hmemory, hread, hpending⟩, hprofile⟩ := h
  exact ⟨⟨hmemory, Memory.writeBytes_wf hread _ _, hpending⟩, hprofile⟩

/-- Whatever image was read, the profile that it gives lies in its ranges, and the pending image is that image
(R181..R183). -/
theorem State.loadComplete_storesSound (h : s.storesSound) : s.loadComplete.storesSound := by
  obtain ⟨⟨hmemory, hread, -⟩, -⟩ := h
  have hloader : s.loadComplete.loader = ⟨.running, s.loader.readImage, profileOf s.loader.readImage,
      imageRejected s.loader.readImage, none⟩ := by
    simp [State.loadComplete, State.fixProfile]
  have hpending : s.loadComplete.responder.pendingImage = s.loader.readImage := by
    simp [State.loadComplete, State.fixProfile, State.startTimers]
  have hkept : s.loadComplete.memory = s.memory := by simp [State.loadComplete]
  rw [State.storesSound, State.storesWf, State.profile, hloader, hpending, hkept]
  dsimp only
  exact ⟨⟨hmemory, hread, hread⟩, profileOf_inRange _⟩

theorem State.pageDone_storesSound (st : Store) (p : Nat) (h : s.storesSound) : (s.pageDone st p).storesSound := by
  obtain ⟨⟨hmemory, hread, hpending⟩, hprofile⟩ := h
  rw [State.storesSound, State.storesWf, State.profile, s.pageDone_memory, s.pageDone_loader, s.pageDone_responder]
  refine ⟨⟨Memory.writeBytes_wf hmemory _ _, ?_, hpending⟩, ?_⟩
  · split
    · exact hread
    · exact Memory.nil_wf
  · split <;> exact hprofile

theorem State.finishStore_storesSound (st : Store) (b : Bool) (h : s.storesSound) : (s.finishStore st b).storesSound :=
  State.storesSound_congr (by simp) (by simp) (by simp [State.finishStore, State.offerReply]) h

/-! ### The commands -/

/-- The commands that write a byte store or fix the running profile. -/
def reachesStores : Instr → Bool
  | .powerOn | .profileLoadComplete _ | .frameHeard _ _ | .storePageDone _ | .storePageTimeout
  | .storeReadbackComplete _ _ | .readBurstEnd _ _ => true
  | _ => false

theorem exec_storesSound_of_not_reaches {c : Instr} (hc : reachesStores c = false) (hs : s.storesSound)
    (h : exec c s = .next t) : t.storesSound := by
  cases c with
  | powerOn | profileLoadComplete | frameHeard | storePageDone | storePageTimeout | storeReadbackComplete
  | readBurstEnd => cases hc
  | frameStart | arbitrationLoss | collided | ackSlotRead | mediumIdle =>
    cases h
    exact State.storesSound_congr (by simp) (by simp) (by simp) hs
  | muteExpiry | joinWaitExpiry | deadlineExpiry | staleExpiry | atRestExpiry | baseValidityExpiry | reliefExpiry
  | regulationStep | brakeStep | gripState | echoDeadlineExpiry | assertionEndExpiry | cutPeriodExpiry | ltStatus =>
    simp only [exec, execMuteExpiry, execJoinWaitExpiry, execDeadlineExpiry, execStaleExpiry, execAtRestExpiry,
      execBaseValidityExpiry, execReliefExpiry, execRegulationStep, execBrakeStep, execGripState,
      execEchoDeadlineExpiry, execAssertionEndExpiry, execCutPeriodExpiry, execLtStatus] at h
    split at h
    all_goals
      cases h
      exact State.storesSound_congr (by simp) (by simp) (by simp) hs
  | windowExpiry =>
    simp only [exec, execWindowExpiry] at h
    split at h <;> (cases h; exact hs)
  | storePageBurstEnd =>
    simp only [exec, execStorePageBurstEnd] at h
    repeat' split at h
    all_goals
      cases h
      exact hs

theorem exec_storesSound {c : Instr} (hs : s.storesSound) (h : exec c s = .next t) : t.storesSound := by
  cases hc : reachesStores c with
  | false => exact exec_storesSound_of_not_reaches hc hs h
  | true =>
    cases c with
    | powerOn =>
      cases h
      exact State.powerOn_storesSound hs
    | profileLoadComplete min =>
      simp only [exec, execProfileLoadComplete] at h
      split at h <;> cases h
      · exact State.loadComplete_storesSound (State.takeBurst_storesSound 3 min hs)
      · exact hs
    | frameHeard after bits =>
      cases h
      exact State.hearFrame_storesSound (s := s.elapse after) bits hs
    | storePageDone after =>
      simp only [exec, execStorePageDone] at h
      repeat' split at h
      all_goals cases h
      · exact State.pageDone_storesSound (s := s.elapse after) _ _ hs
      · exact hs
      · exact hs
      · exact hs
    | storePageTimeout =>
      simp only [exec, execStorePageTimeout] at h
      repeat' split at h
      all_goals cases h
      · exact State.finishStore_storesSound _ _ (State.spoilPage_storesSound (s := s.until _) _ hs)
      · exact hs
      · exact hs
    | storeReadbackComplete after min =>
      simp only [exec, execStoreReadbackComplete] at h
      repeat' split at h
      all_goals cases h
      · exact State.finishStore_storesSound _ _ (State.takeBurst_storesSound (s := s.elapse after) 3 min hs)
      · exact hs
      · exact hs
    | readBurstEnd after min =>
      have hburst : ∀ n, ((s.elapse after).takeBurst n min).storesSound :=
        fun n => State.takeBurst_storesSound (s := s.elapse after) n min hs
      simp only [exec, execReadBurstEnd] at h
      repeat' split at h
      all_goals cases h
      · exact hburst _
      · exact hs
      · exact hburst _
      · exact hs
      · exact hs
      · exact hs
    | _ => cases hc

end

/-- Settles O10: one command writes the byte stores in their canonical form and fixes no profile but one that an image
gives; neither the queue nor passing time reaches them. -/
theorem storesAndProfileStaySound : Obligations.StoresAndProfileStaySound := by
  intro s t hstores hprofile h
  rcases step_cases h with ⟨c, q, hexec⟩ | rfl
  · exact exec_storesSound (s := s.setPending q) ⟨hstores, hprofile⟩ hexec
  · exact ⟨hstores, hprofile⟩

end Sys2Proof.Machine
end

section
/-! The power-on sequence and the read bursts of the load and of a read-back (R180, R188, R189). -/

namespace Sys2Proof.Machine

/-! ### Power-on -/

section

variable {s : State}

/-- The power-on values stand whatever the serial memory holds and whatever waits (R180). -/
theorem State.poweredOn_atPowerOn (m : Memory) (p : List Instr) (d : Nat) : (State.poweredOn m p d).atPowerOn :=
  State.reset_atPowerOn

theorem State.poweredOn_memory (m : Memory) (p : List Instr) (d : Nat) : (State.poweredOn m p d).memory = m := rfl

/-- A power cycle spoils the page whose programming was under way (R189). -/
theorem State.powerOn_of_page {p : Nat} (h : s.pageInProgress = some p) :
    s.powerOn = State.poweredOn (s.spoilPage p).memory s.pending (s.spoilPage p).draws := by
  cases hstore : s.responder.store with
  | none => simp only [State.pageInProgress, hstore, reduceCtorEq] at h
  | some st =>
    obtain ⟨stage, tag, record, offset⟩ := st
    cases stage with
    | pageBurst q | pageWait q _ =>
      simp only [State.pageInProgress, hstore, Option.some.injEq] at h
      simp only [State.powerOn, hstore, h, State.spoilPage_pending]
    | readBack => simp only [State.pageInProgress, hstore, reduceCtorEq] at h

theorem State.powerOn_of_no_page (h : s.pageInProgress = none) :
    s.powerOn = State.poweredOn s.memory s.pending s.draws := by
  cases hstore : s.responder.store with
  | none => simp only [State.powerOn, hstore]
  | some st =>
    obtain ⟨stage, tag, record, offset⟩ := st
    cases stage with
    | pageBurst | pageWait => simp only [State.pageInProgress, hstore, reduceCtorEq] at h
    | readBack => simp only [State.powerOn, hstore]

end

/-- Settles O5: the cycle starts from the power-on values, with or without a page under way. -/
theorem powerOnRestartsThePart : Obligations.PowerOnRestartsThePart := by
  intro s
  cases hpage : s.pageInProgress with
  | none =>
    refine ⟨s.powerOn, rfl, ?_⟩
    rw [State.powerOn_of_no_page hpage]
    exact ⟨State.poweredOn_atPowerOn _ _ _, rfl, fun _ => rfl, fun _ h => nomatch h⟩
  | some p =>
    refine ⟨s.powerOn, rfl, ?_⟩
    rw [State.powerOn_of_page hpage]
    refine ⟨State.poweredOn_atPowerOn _ _ _, rfl, (fun h => nomatch h), fun q hq => ?_⟩
    cases hq
    rw [State.poweredOn_memory]
    exact s.spoilPage_agreeOutsidePage p

/-! ### MSEL -/

section

variable {s : State}

/-- The part reads the serial memory: in the load, or in the read-back of a store (R180, R188). -/
def State.reads (s : State) : Prop :=
  (∃ n, s.loader.phase = .loading n) ∨
    (s.loader.phase = .running ∧ ∃ st n, s.responder.store = some st ∧ st.stage = .readBack n)

theorem State.burst_of_reads (h : s.reads) : s.pins.burst = s.readBurstRuns := by
  show s.burstRuns = s.readBurstRuns
  rcases h with ⟨n, hphase⟩ | ⟨hphase, st, n, hstore, hstage⟩
  · simp only [State.burstRuns, hphase]
  · simp only [State.burstRuns, hphase, hstore, hstage]

/-- At the end of a read burst MSEL is released, and asserted again once time has passed (log entry 2). -/
theorem State.burst_released (h : s.reads) (hended : s.loader.burstEnded = some s.now) :
    s.pins.burst = false ∧ ∀ now, s.now < now → (s.setNow now).pins.burst = true := by
  refine ⟨?_, fun now hnow => ?_⟩
  · simp [State.burst_of_reads h, State.readBurstRuns, hended]
  · have hlater : (s.setNow now).reads := h
    simp [State.burst_of_reads hlater, State.readBurstRuns, hended, hnow]

end

/-! ### READ_BURST_END -/

section

variable (s : State)

/-- Two changes after each other change the parts of the one and of the other. -/
theorem State.onlyChanges_append {s t u : State} {ps qs : List Part} (h : s.onlyChanges t ps) (k : t.onlyChanges u qs) :
    s.onlyChanges u (ps ++ qs) :=
  State.onlyChanges_trans (State.onlyChanges_mono h fun _ => List.mem_append_left qs)
    (State.onlyChanges_mono k fun _ => List.mem_append_right ps)

theorem State.elapse_onlyChanges (dt : Nat) : s.onlyChanges (s.elapse dt) [.now] := by
  intro p hp
  cases p <;> simp_all [State.agreesOn]

theorem State.until_onlyChanges (due : Nat) : s.onlyChanges (s.until due) [.now] := by
  intro p hp
  cases p <;> simp_all [State.agreesOn]

theorem State.setLoader_onlyChanges (x : Loader) : s.onlyChanges (s.setLoader x) [.loader] := by
  intro p hp
  cases p <;> simp_all [State.agreesOn]

theorem State.setResponder_onlyChanges (x : Responder) : s.onlyChanges (s.setResponder x) [.responder] := by
  intro p hp
  cases p <;> simp_all [State.agreesOn]

theorem State.takeBurst_onlyChanges (k : Nat) (min : Option (List Byte)) :
    s.onlyChanges (s.takeBurst k min) [.loader] := s.setLoader_onlyChanges _

theorem State.setStage_onlyChanges (st : Store) (stage : StoreStage) :
    s.onlyChanges (s.setStage st stage) [.responder] := s.setResponder_onlyChanges _

/-- The state after the `n`-th read burst of the load, time having passed before its end (R180). -/
def State.afterLoadBurst (after n : Nat) (min : Option (List Byte)) : State :=
  let t := (s.elapse after).takeBurst n min
  t.setLoader { t.loader with phase := .loading (n + 1) }

/-- The state after the `n`-th read burst of a read-back, time having passed before its end (R188). -/
def State.afterReadBack (after n : Nat) (min : Option (List Byte)) (st : Store) : State :=
  ((s.elapse after).takeBurst n min).setStage st (.readBack (n + 1))

variable {s} {after n : Nat} {min : Option (List Byte)}

theorem exec_readBurstEnd_of_loading (hphase : s.loader.phase = .loading n) (hn : n < 3) :
    exec (.readBurstEnd after min) s = .next (s.afterLoadBurst after n min) := by
  simp only [exec, execReadBurstEnd, State.elapse_loader, hphase, if_pos hn]
  rfl

theorem exec_readBurstEnd_of_readBack {st : Store} (hphase : s.loader.phase = .running)
    (hstore : s.responder.store = some st) (hstage : st.stage = .readBack n) (hn : n < 3) :
    exec (.readBurstEnd after min) s = .next (s.afterReadBack after n min st) := by
  simp only [exec, execReadBurstEnd, State.elapse_loader, State.elapse_responder, hphase, hstore, hstage, if_pos hn]
  rfl

theorem State.afterLoadBurst_onlyChanges : s.onlyChanges (s.afterLoadBurst after n min) [.now, .loader] :=
  State.onlyChanges_append (s.elapse_onlyChanges after)
    (State.onlyChanges_trans ((s.elapse after).takeBurst_onlyChanges n min) (State.setLoader_onlyChanges _ _))

theorem State.afterReadBack_onlyChanges (st : Store) :
    s.onlyChanges (s.afterReadBack after n min st) [.now, .loader, .responder] :=
  State.onlyChanges_append (s.elapse_onlyChanges after)
    (State.onlyChanges_append ((s.elapse after).takeBurst_onlyChanges n min) (State.setStage_onlyChanges _ st _))

end

/-- Settles O6: the burst fills its page of the image being read and ends now, in the load and in a read-back. -/
theorem readBurstsFillTheImage : Obligations.ReadBurstsFillTheImage := by
  intro after min s n hn hwf
  have hpage := (s.elapse after).takeBurst_pageFromBurst n min hwf
  have hother := (s.elapse after).takeBurst_agreeOutsidePage n min
  refine ⟨fun hphase => ?_, fun st hphase hstore hstage => ?_⟩
  · exact ⟨_, exec_readBurstEnd_of_loading hphase hn, rfl, rfl, hpage, hother, rfl, rfl,
      State.burst_released (.inl ⟨n + 1, rfl⟩) rfl, State.afterLoadBurst_onlyChanges⟩
  · exact ⟨_, exec_readBurstEnd_of_readBack hphase hstore hstage hn, rfl, rfl, hpage, hother, hphase, rfl, rfl,
      State.burst_released (.inr ⟨hphase, _, n + 1, rfl, rfl⟩) rfl, State.afterReadBack_onlyChanges st⟩

end Sys2Proof.Machine
end

section
/-! The commissioning window and WRITE_MASKED (R184, R187). -/

namespace Sys2Proof.Machine

/-! ### The window -/

section

variable {s : State}

theorem exec_windowExpiry_of_running {d : Nat} (h : s.responder.windowEnds = some d) :
    exec .windowExpiry s = .next (s.until d).closeWindow := by
  simp only [exec, execWindowExpiry, h]

theorem State.windowArrival_of_speed {v : Nat} (h : s.topics.frontSpeed = some v) :
    s.windowArrival = if 100 ≤ v then s.closeWindow else s := by
  simp only [State.windowArrival, h]

theorem State.windowArrival_of_absent (h : s.topics.frontSpeed = none) : s.windowArrival = s := by
  simp only [State.windowArrival, h]

end

/-- Settles O13: the window closes at its expiry, and at an arrival by the front speed. -/
theorem theWindowCloses : Obligations.TheWindowCloses := by
  refine ⟨fun s d h => exec_windowExpiry_of_running h, fun s =>
    ⟨fun v hspeed hv => ?_, fun v hspeed hv => ?_, fun h => ?_⟩⟩
  · exact (State.windowArrival_of_speed hspeed).trans (if_pos hv)
  · exact (State.windowArrival_of_speed hspeed).trans (if_neg (Nat.not_le_of_lt hv))
  · exact State.windowArrival_of_absent h

/-! ### The masked word -/

/-- A byte changed under a mask: a set mask bit takes the data bit (R187). -/
def maskedByte (old data mask : Byte) : Byte := (old &&& ~~~mask) ||| (data &&& mask)

theorem maskedByte_getLsbD (old data mask : Byte) {k : Nat} (hk : k < 8) :
    (maskedByte old data mask).getLsbD k = if mask.getLsbD k then data.getLsbD k else old.getLsbD k := by
  simp only [maskedByte, BitVec.getLsbD_or, BitVec.getLsbD_and, BitVec.getLsbD_not, hk, decide_true, Bool.true_and]
  cases mask.getLsbD k <;> simp

/-- A word is changed under a mask byte by byte. -/
theorem maskedWord_append (oldHigh oldLow dataHigh dataLow maskHigh maskLow : Byte) :
    maskedWord (oldHigh ++ oldLow) (dataHigh ++ dataLow) (maskHigh ++ maskLow) =
      maskedByte oldHigh dataHigh maskHigh ++ maskedByte oldLow dataLow maskLow := by
  refine BitVec.eq_of_getLsbD_eq fun k hk => ?_
  simp only [maskedWord, BitVec.getLsbD_or, BitVec.getLsbD_and, BitVec.getLsbD_not, hk]
  simp only [maskedByte, BitVec.getLsbD_append, BitVec.getLsbD_or, BitVec.getLsbD_and, BitVec.getLsbD_not]
  split
  · simp [*]
  · have : k - 8 < 8 := by omega
    simp [*]

/-- A u16 holds the high byte first and then the low one (R193). -/
theorem u16_append (high low : Byte) : u16 (high ++ low).toNat = [high, low] := by
  have hhigh := high.isLt
  have hlow := low.isLt
  have hword : (high ++ low).toNat = high.toNat * 256 + low.toNat := by
    rw [BitVec.toNat_append, ← Nat.shiftLeft_add_eq_or_of_lt hlow, Nat.shiftLeft_eq]
  have hdiv : (high ++ low).toNat / 256 = high.toNat := by omega
  have hmod : (high ++ low).toNat % 256 = low.toNat := by omega
  have hlowByte : BitVec.ofNat 8 (high ++ low).toNat = low :=
    BitVec.eq_of_toNat_eq ((BitVec.toNat_ofNat _ _).trans hmod)
  rw [u16, hdiv, hlowByte, BitVec.ofNat_toNat, BitVec.setWidth_eq]

/-! ### WRITE_MASKED -/

section

variable {s : State} {p : List Byte} (hlength : p.length = 10)
  (htarget : (p.getD 0 0).toNat = s.profile.ownStation) (hstore : s.responder.store = none)
  (hcode : (p.getD 2 0).toNat = s.profile.serviceCode)

include hlength htarget hstore hcode

/-- A request of a kind past READ, with no store in progress and the right code, is served by its kind (R185). -/
theorem State.serve_of_served (hlow : 2 ≤ (p.getD 3 0).toNat) (hhigh : (p.getD 3 0).toNat ≤ 5) :
    s.serve p = s.serveKind (readRequest p) :=
  (s.serve_of_addressed hlength htarget).trans (State.judgeRequest_of_served hlow hhigh hstore hcode)

theorem State.serve_of_write (hkind : p.getD 3 0 = 2) : s.serve p = s.serveWrite (readRequest p) :=
  (State.serve_of_served hlength htarget hstore hcode (by rw [hkind]; decide) (by rw [hkind]; decide)).trans
    (State.serveKind_of_write (congrArg BitVec.toNat hkind))

theorem State.serve_of_store (hkind : p.getD 3 0 = 3) : s.serve p = s.serveStore (readRequest p) :=
  (State.serve_of_served hlength htarget hstore hcode (by rw [hkind]; decide) (by rw [hkind]; decide)).trans
    (State.serveKind_of_store (congrArg BitVec.toNat hkind))

end

section

variable (s : State)

/-- The pending image with a word written at an address (R187). -/
def State.writeWord (s : State) (a : Nat) (high low : Byte) : State :=
  s.setResponder { s.responder with pendingImage := s.responder.pendingImage.writeBytes a [high, low] }

theorem State.writeWord_onlyChanges (a : Nat) (high low : Byte) : s.onlyChanges (s.writeWord a high low) [.responder] :=
  s.setResponder_onlyChanges _

variable {s}

/-- A WRITE_MASKED past its checks writes the masked word, byte by byte, and answers with the old one (R187). -/
theorem State.serveWrite_of_taken {r : Request} (hrecord : r.record = 16) (heven : r.offset.toNat % 2 = 0)
    (hopen : s.responder.windowEnds.isSome = true) {dataHigh dataLow maskHigh maskLow : Byte}
    (hdata : r.data = dataHigh ++ dataLow) (hmask : r.mask = maskHigh ++ maskLow) {high low : Byte}
    (hhigh : s.responder.pendingImage.read r.offset.toNat = high)
    (hlow : s.responder.pendingImage.read (r.offset.toNat + 1) = low) :
    s.serveWrite r =
      (s.writeWord r.offset.toNat (maskedByte high dataHigh maskHigh) (maskedByte low dataLow maskLow)).answer r .ok
        [high, low] := by
  unfold State.serveWrite
  dsimp only
  rw [if_neg (not_not_intro hrecord), if_neg (by omega), if_neg (by simp [State.windowOpen, hopen]), hdata, hmask,
    hhigh, hlow, maskedWord_append, u16_append, u16_append]
  rfl

end

/-- Settles O12: the two bytes of the word are written as the mask says, and the reply follows. -/
theorem writeMaskedChangesOneWord : Obligations.WriteMaskedChangesOneWord := by
  intro s p hlength htarget hkind hstore hcode hrecord heven hopen hwf t a old
  let high : Byte := maskedByte (old.read a) (p.getD 6 0) (p.getD 8 0)
  let low : Byte := maskedByte (old.read (a + 1)) (p.getD 7 0) (p.getD 9 0)
  let u : State := s.writeWord a high low
  have ht : t = u.answer (readRequest p) .ok [old.read a, old.read (a + 1)] :=
    (State.serve_of_write hlength htarget hstore hcode hkind).trans
      (State.serveWrite_of_taken (r := readRequest p) hrecord heven hopen rfl rfl rfl rfl)
  have himage : t.responder.pendingImage = old.writeBytes a [high, low] := by rw [ht]; rfl
  rw [himage]
  refine ⟨fun i hi k hk => ?_, fun b hb hb' => ?_, ?_, ?_, ?_, ?_, ?_⟩
  · rw [Memory.read_writeBytes_same hwf a i [high, low] hi]
    match i, hi with
    | 0, _ => exact maskedByte_getLsbD _ _ _ hk
    | 1, _ => exact maskedByte_getLsbD _ _ _ hk
  · exact Memory.read_writeBytes_other _ _ _ _ (by simp only [List.length_cons, List.length_nil]; omega)
  · rw [ht]; rfl
  · rw [ht]; rfl
  · rw [ht]; rfl
  · rw [ht]; rfl
  · rw [ht]
    exact State.onlyChanges_mono
      (State.onlyChanges_append (s.writeWord_onlyChanges a high low) (u.answer_onlyChanges _ _ _)) (by decide)

end Sys2Proof.Machine
end

section
/-! SUPPORT. A frame offered while there is room waits, and a lamp change after it leaves it there (R10, R176). -/

namespace Sys2Proof.Machine

/-- With room in the queue the offered frame waits beside those of other topics (R10). -/
structure Link.TakesIn (l l' : Link) (f : TxFrame) : Prop where
  waits : f ∈ l'.queue
  others : ∀ g ∈ l.queue, g.topic ≠ f.topic → g ∈ l'.queue
  length : l'.queue.length ≤ l.queue.length + 1

theorem Link.offer_takesIn {l : Link} (ha : l.accepts) (hroom : l.queue.length ≤ 3) (t : TxTopic) (p : List Byte) :
    l.TakesIn (l.offer t p).1 ⟨t, l.seqs.get t + 1, p⟩ := by
  let f : TxFrame := ⟨t, l.seqs.get t + 1, p⟩
  cases hold : waitingOf l.queue t with
  | none =>
    have hperm : (l.offer t p).1.queue.Perm (f :: l.queue) := by
      rw [Link.offer_of_new p ha (waitingOf_eq_none.mp hold)]
      exact (Link.enqueue_room_perm (l := l.takeSeq t) f hroom).1
    exact
      { waits := hperm.mem_iff.mpr List.mem_cons_self
        others := fun g hg _ => hperm.mem_iff.mpr (List.mem_cons_of_mem _ hg)
        length := hperm.length_eq.le }
  | some old =>
    have hqueue : (l.offer t p).1.queue = replaceFrame f l.queue := by
      rw [Link.offer_of_waiting p ha hold]
      rfl
    have hmem : ∀ g ∈ l.queue, (if g.topic == t then f else g) ∈ (l.offer t p).1.queue := fun g hg => by
      rw [hqueue]
      exact List.mem_map_of_mem hg
    have htopic : (old.topic == t) = true := List.find?_some (p := fun g : TxFrame => g.topic == t) hold
    exact
      { waits := by simpa only [htopic, if_true] using hmem old (List.mem_of_find?_eq_some hold)
        others := fun g hg hne => by simpa only [beq_iff_eq, if_neg (show ¬g.topic = t from hne)] using hmem g hg
        length := by simp [hqueue, replaceFrame] }

section

variable {s : State} (ha : s.link.accepts) (hroom : s.link.queue.length ≤ 3) {g : TxFrame} (hg : g ∈ s.link.queue)
  (htopic : g.topic ≠ .ltStatus)

include ha hroom hg htopic

theorem State.offerLtStatus_keeps : g ∈ s.offerLtStatus.link.queue := by
  unfold State.offerLtStatus
  split
  · exact hg
  · exact (Link.offer_takesIn ha hroom .ltStatus s.ltStatusPayload).others g hg htopic

theorem State.refreshLamp_keeps : g ∈ s.refreshLamp.link.queue := by
  unfold State.refreshLamp
  split
  · exact hg
  · refine State.offerLtStatus_keeps ?_ ?_ ?_ htopic
    exacts [ha, hroom, hg]

theorem State.setCondition_keeps (f : Fault12) (b : Bool) : g ∈ (s.setCondition f b).link.queue := by
  unfold State.setCondition
  split
  · exact hg
  · refine State.refreshLamp_keeps ?_ ?_ ?_ htopic
    exacts [ha, hroom, hg]

end

end Sys2Proof.Machine
end

section
/-! A profile store from its request to its reply (R173, R185, R188, R189). -/

namespace Sys2Proof.Machine

section

variable (s : State)

/-! ### The request -/

theorem State.serveStore_of_open {r : Request} (hopen : s.responder.windowEnds.isSome = true) :
    s.serveStore r = s.beginStore r := if_pos hopen

theorem withCode_read_other (m : Memory) {a : Nat} (ha : a ≠ 254) (ha' : a ≠ 255) : (withCode m).read a = m.read a :=
  Memory.read_writeBytes_other _ _ _ _ (by simp only [u16, List.length_cons, List.length_nil]; omega)

/-- The check code stands in bytes 254 and 255, most significant byte first (R181, R188). -/
theorem withCode_read_code {m : Memory} (h : m.wf) :
    256 * ((withCode m).read 254).toNat + ((withCode m).read 255).toNat = (imageCode m).toNat := by
  have hhigh : (withCode m).read 254 = BitVec.ofNat 8 ((imageCode m).toNat / 256) :=
    Memory.read_writeBytes_same h 254 0 (u16 (imageCode m).toNat) Nat.two_pos
  have hlow : (withCode m).read 255 = BitVec.ofNat 8 (imageCode m).toNat :=
    Memory.read_writeBytes_same h 254 1 (u16 (imageCode m).toNat) Nat.one_lt_two
  rw [hhigh, hlow]
  exact word_toNat (imageCode m).isLt

/-! ### The pages -/

theorem State.spoilPage_onlyChanges (p : Nat) : s.onlyChanges (s.spoilPage p) [.memory, .draws] := by
  intro q hq
  cases q <;> simp_all [State.agreesOn]

theorem State.pageDone_onlyChanges (st : Store) (p : Nat) :
    s.onlyChanges (s.pageDone st p) [.memory, .loader, .responder] := by
  intro q hq
  cases q <;> simp_all [State.agreesOn]

theorem State.pageDone_profile (st : Store) (p : Nat) :
    (s.pageDone st p).loader.profile = s.loader.profile ∧ (s.pageDone st p).loader.fallback = s.loader.fallback := by
  rw [State.pageDone_loader]
  split <;> exact ⟨rfl, rfl⟩

/-! ### The end of a store -/

/-- What the end of a store leaves: the reply under the request's tag, the condition, and the counts (R185, R188). -/
structure State.EndsStore (s t : State) (st : Store) (succeeded : Bool) : Prop where
  responder : t.responder =
    { s.responder with
      store := none
      replies := bump s.responder.replies
      failedStores := if succeeded then s.responder.failedStores else bump s.responder.failedStores }
  reply : s.link.accepts → s.link.queue.length ≤ 2 →
    ⟨.serviceReply, s.link.seqs.serviceReply + 1,
      [st.tag, if succeeded then 0 else 8, st.record, st.offset]⟩ ∈ t.link.queue
  condition : s.monitor.faults.onlyFault t.monitor.faults .storeFailed (!succeeded)
  link : s.link.onlyOffers t.link
  publisher : s.publisher.onlyAwaits t.publisher

/-- The state of a store that has ended with its reply offered, its condition not yet reported (R188). -/
def State.replied (s : State) (st : Store) (succeeded : Bool) : State :=
  (s.setResponder
    { s.responder with
      store := none
      failedStores := if succeeded then s.responder.failedStores else bump s.responder.failedStores }).offerReply
    st.tag st.record st.offset (if succeeded then .ok else .storeFailed) []

theorem State.finishStore_eq (st : Store) (succeeded : Bool) :
    s.finishStore st succeeded = (s.replied st succeeded).setCondition .storeFailed (!succeeded) := rfl

theorem State.replied_link (st : Store) (succeeded : Bool) :
    (s.replied st succeeded).link =
      (s.link.offer .serviceReply [st.tag, if succeeded then 0 else 8, st.record, st.offset]).1 := by
  cases succeeded <;> rfl

theorem State.replied_onlyChanges (st : Store) (succeeded : Bool) :
    s.onlyChanges (s.replied st succeeded) [.link, .publisher, .responder] := by
  intro p hp
  cases p <;> simp_all [State.agreesOn, State.replied]

theorem State.finishStore_endsStore (st : Store) (succeeded : Bool) :
    s.EndsStore (s.finishStore st succeeded) st succeeded where
  responder := by rw [State.finishStore_eq, State.setCondition_responder]; rfl
  reply ha hroom := by
    have htakes := Link.offer_takesIn ha (hroom.trans (by decide)) .serviceReply
      [st.tag, if succeeded then 0 else 8, st.record, st.offset]
    have hstate := (Link.offer_onlyOffers s.link .serviceReply
      [st.tag, if succeeded then 0 else 8, st.record, st.offset]).1
    rw [← State.replied_link] at htakes hstate
    rw [State.finishStore_eq]
    have haccepts : (s.replied st succeeded).link.accepts := by rwa [Link.accepts, hstate]
    exact State.setCondition_keeps haccepts (htakes.length.trans (Nat.succ_le_succ hroom)) htakes.waits
      TxTopic.noConfusion _ _
  condition := State.setCondition_onlyFault (s.replied st succeeded) .storeFailed (!succeeded)
  link := by
    refine Link.onlyOffers_trans ?_ (State.setCondition_onlyOffers (s.replied st succeeded) .storeFailed (!succeeded))
    rw [State.replied_link]
    exact Link.offer_onlyOffers _ _ _
  publisher := Publisher.onlyAwaits_trans (State.offer_onlyAwaits (s.setResponder _) _ _)
    (State.setCondition_onlyAwaits (s.replied st succeeded) .storeFailed (!succeeded))

theorem State.finishStore_onlyChanges (st : Store) (succeeded : Bool) :
    s.onlyChanges (s.finishStore st succeeded) [.link, .publisher, .monitor, .responder] :=
  State.onlyChanges_mono
    (State.onlyChanges_append (s.replied_onlyChanges st succeeded) (State.setCondition_onlyChanges _ _ _)) (by decide)

end

/-- The end of a store seen from a state whose blocks stood as those it ended in. -/
theorem State.EndsStore.of_same {s u t : State} {st : Store} {succeeded : Bool} (h : u.EndsStore t st succeeded)
    (hresponder : u.responder = s.responder) (hlink : u.link = s.link) (hmonitor : u.monitor = s.monitor)
    (hpublisher : u.publisher = s.publisher) : s.EndsStore t st succeeded where
  responder := hresponder ▸ h.responder
  reply := hlink ▸ h.reply
  condition := hmonitor ▸ h.condition
  link := hlink ▸ h.link
  publisher := hpublisher ▸ h.publisher

/-! ### The read-back -/

theorem Memory.readBytes_eq_iff (m m' : Memory) (x n : Nat) :
    m.readBytes x n = m'.readBytes x n ↔ ∀ i, i < n → m.read (x + i) = m'.read (x + i) := by
  constructor
  · intro h i hi
    have hlength : i < (m.readBytes x n).length := by rwa [Memory.length_readBytes]
    calc m.read (x + i) = (m.readBytes x n)[i] := (Memory.getElem_readBytes m x n i _).symm
      _ = (m'.readBytes x n)[i]'(h ▸ hlength) := List.getElem_of_eq h hlength
      _ = m'.read (x + i) := Memory.getElem_readBytes m' x n i _
  · intro h
    refine List.ext_getElem (by simp) fun i hi hi' => ?_
    rw [Memory.getElem_readBytes, Memory.getElem_readBytes]
    exact h i (by rwa [Memory.length_readBytes] at hi)

theorem State.readBackAgrees_iff (s : State) :
    s.readBackAgrees = true ↔ ∀ a, a < 256 → s.loader.readImage.read a = s.responder.pendingImage.read a := by
  rw [State.readBackAgrees, beq_iff_eq, Memory.readBytes_eq_iff]
  simp only [Nat.zero_add]

theorem State.readBackAgrees_eq_false_iff (s : State) :
    s.readBackAgrees = false ↔ ∃ a, a < 256 ∧ s.loader.readImage.read a ≠ s.responder.pendingImage.read a := by
  rw [← Bool.not_eq_true, State.readBackAgrees_iff]
  push Not
  rfl

/-! ### The two ends -/

section

variable (s : State) (st : Store)

/-- The state after a page whose done report stayed away past the 15 ms after the end `b` of its burst (R188). -/
def State.timedOut (p b : Nat) : State := ((s.until (b + 150)).spoilPage p).finishStore st false

theorem State.timedOut_endsStore (p b : Nat) : s.EndsStore (s.timedOut st p b) st false :=
  (State.finishStore_endsStore _ st false).of_same (by simp) (by simp) (by simp) (by simp)

theorem State.timedOut_now (p b : Nat) : (s.timedOut st p b).now = max s.now (b + 150) := by
  rw [State.timedOut, State.finishStore_now, State.spoilPage_now, State.until_now]

theorem State.timedOut_agreeOutsidePage (p b : Nat) : agreeOutsidePage s.memory (s.timedOut st p b).memory p := by
  rw [State.timedOut, State.finishStore_memory]
  exact State.spoilPage_agreeOutsidePage (s.until (b + 150)) p

theorem State.timedOut_onlyChanges (p b : Nat) :
    s.onlyChanges (s.timedOut st p b) [.now, .memory, .draws, .link, .publisher, .monitor, .responder] :=
  State.onlyChanges_append (State.onlyChanges_append (s.until_onlyChanges (b + 150)) (State.spoilPage_onlyChanges _ p))
    (State.finishStore_onlyChanges _ st false)

/-- The state after the last read-back burst: the store has ended, and succeeded if what was read agrees (R188). -/
def State.readBackEnded (after : Nat) (min : Option (List Byte)) : State :=
  let u := (s.elapse after).takeBurst 3 min
  u.finishStore st u.readBackAgrees

variable (after : Nat) (min : Option (List Byte))

theorem State.readBackEnded_endsStore :
    s.EndsStore (s.readBackEnded st after min) st ((s.elapse after).takeBurst 3 min).readBackAgrees :=
  (State.finishStore_endsStore _ st _).of_same rfl rfl rfl rfl

theorem State.readBackEnded_now : (s.readBackEnded st after min).now = s.now + after := by
  rw [State.readBackEnded, State.finishStore_now, State.takeBurst_now, State.elapse_now]

theorem State.readBackEnded_loader :
    (s.readBackEnded st after min).loader = ((s.elapse after).takeBurst 3 min).loader := State.finishStore_loader _ st _

theorem State.readBackEnded_onlyChanges :
    s.onlyChanges (s.readBackEnded st after min) [.now, .loader, .link, .publisher, .monitor, .responder] :=
  State.onlyChanges_append
    (State.onlyChanges_append (s.elapse_onlyChanges after) (State.takeBurst_onlyChanges _ 3 min))
    (State.finishStore_onlyChanges _ st _)

end

/-! ### The commands -/

section

variable {s : State} {st : Store} (hstore : s.responder.store = some st)

include hstore

theorem exec_storePageBurstEnd_of_burst {p : Nat} (hstage : st.stage = .pageBurst p) (after : Nat) :
    exec (.storePageBurstEnd after) s = .next ((s.elapse after).pageBurstEnded st p) := by
  simp only [exec, execStorePageBurstEnd, State.elapse_responder, hstore, hstage]

theorem exec_storePageDone_of_wait {p b after : Nat} (hstage : st.stage = .pageWait p b)
    (hnow : s.now + after ≤ b + 150) :
    exec (.storePageDone after) s = .next ((s.elapse after).pageDone st p) := by
  simp only [exec, execStorePageDone, State.elapse_responder, hstore, hstage]
  exact if_pos hnow

theorem exec_storePageTimeout_of_wait {p b : Nat} (hstage : st.stage = .pageWait p b) :
    exec .storePageTimeout s = .next (s.timedOut st p b) := by
  simp only [exec, execStorePageTimeout, hstore, hstage]
  rfl

theorem exec_storeReadbackComplete_of_readBack (hstage : st.stage = .readBack 3) (after : Nat)
    (min : Option (List Byte)) :
    exec (.storeReadbackComplete after min) s =
      .next (s.readBackEnded st after min) := by
  simp only [exec, execStoreReadbackComplete, State.elapse_responder, hstore, hstage]
  rfl

end

/-- Settles O9: the request begins the store, each page command moves its stage, and the timeout or the compare of what
was read back ends it with its reply. -/
theorem storeRunsThroughItsStages : Obligations.StoreRunsThroughItsStages := by
  unfold Obligations.StoreRunsThroughItsStages
  intro replies
  refine ⟨fun s p hlength htarget hkind hstore hcode hopen hwf => ?_, fun s st p hstore => ⟨fun after hstage => ?_,
    fun after b hstage hnow hwf => ?_, fun b hstage => ?_⟩, fun after min s st hstore hstage hwf => ?_⟩
  · intro t image image'
    have ht : t = s.beginStore (readRequest p) :=
      (State.serve_of_store hlength htarget hstore hcode hkind).trans (s.serveStore_of_open hopen)
    have himage : image' = withCode image := congrArg (fun u : State => u.responder.pendingImage) ht
    rw [himage, ht]
    exact ⟨rfl, fun a ha ha' => withCode_read_other image ha ha', withCode_read_code hwf, s.setResponder_onlyChanges _⟩
  · exact ⟨_, exec_storePageBurstEnd_of_burst hstore hstage after, rfl, rfl,
      State.onlyChanges_append (s.elapse_onlyChanges after) (State.setStage_onlyChanges _ st _)⟩
  · obtain ⟨hprofile, hfallback⟩ := (s.elapse after).pageDone_profile st p
    exact ⟨_, exec_storePageDone_of_wait hstore hstage hnow, State.pageDone_now _ _ _,
      fun i hi => State.pageDone_page (s.elapse after) st p hwf hi,
      State.pageDone_agreeOutsidePage (s.elapse after) st p, State.pageDone_responder _ _ _,
      State.pageDone_phase (s.elapse after) st p, hprofile, hfallback,
      State.onlyChanges_append (s.elapse_onlyChanges after) (State.pageDone_onlyChanges _ st p)⟩
  · have hends := s.timedOut_endsStore st p b
    exact ⟨_, exec_storePageTimeout_of_wait hstore hstage, s.timedOut_now st p b, hends.responder,
      ⟨by rw [hends.responder], hends.reply⟩, hends.condition, s.timedOut_agreeOutsidePage st p b,
      hends.link, hends.publisher, s.timedOut_onlyChanges st p b⟩
  · let u : State := (s.elapse after).takeBurst 3 min
    have hends := s.readBackEnded_endsStore st after min
    have hloader := s.readBackEnded_loader st after min
    refine ⟨_, exec_storeReadbackComplete_of_readBack hstore hstage after min, s.readBackEnded_now st after min, ?_, ?_,
      by rw [hends.responder], by rw [hends.responder], by rw [hends.responder], (congrArg Loader.profile hloader :),
      fun hagree => ?_, fun hdiffer => ?_,
      hends.link, hends.publisher, s.readBackEnded_onlyChanges st after min⟩
    · rw [hloader]
      exact State.takeBurst_pageFromBurst (s.elapse after) 3 min hwf
    · rw [hloader]
      exact State.takeBurst_agreeOutsidePage (s.elapse after) 3 min
    · rw [hloader] at hagree
      rw [u.readBackAgrees_iff.mpr hagree] at hends
      exact ⟨⟨by rw [hends.responder], hends.reply⟩, by rw [hends.responder]; rfl, hends.condition⟩
    · rw [hloader] at hdiffer
      rw [u.readBackAgrees_eq_false_iff.mpr hdiffer] at hends
      exact ⟨⟨by rw [hends.responder], hends.reply⟩, by rw [hends.responder]; rfl, hends.condition⟩

end Sys2Proof.Machine
end

section
/-! The judgement of an image, its fields by their places, and the loader's clamps (R41, R48, R49, R67, R83, R120, R160,
R181, R182, R196). -/

namespace Sys2Proof.Machine

/-! ### The judgement -/

section

variable {m : Memory}

/-- The image reads as an erased memory (R181). -/
theorem Memory.all_erased_iff (m : Memory) :
    (m.readBytes 0 256).all (· == erasedByte) = true ↔ ∀ a, a < 256 → m.read a = 0xFF := by
  rw [List.all_eq_true]
  constructor
  · intro h a ha
    have hlength : a < (m.readBytes 0 256).length := by rwa [Memory.length_readBytes]
    have hbyte := h _ (List.getElem_mem hlength)
    rwa [Memory.getElem_readBytes, Nat.zero_add, beq_iff_eq] at hbyte
  · intro h b hb
    obtain ⟨a, ha, rfl⟩ := List.getElem_of_mem hb
    rw [Memory.length_readBytes] at ha
    rw [Memory.getElem_readBytes, Nat.zero_add, beq_iff_eq]
    exact h a ha

theorem imageRejected_iff (m : Memory) :
    imageRejected m = true ↔
      (imageCode m).toNat ≠ storedCode m ∨ (∀ a, a < 256 → m.read a = 0xFF) ∨ imageU8 m 0 ≠ 1 := by
  rw [imageRejected, Bool.or_eq_true, Bool.or_eq_true, bne_iff_ne, bne_iff_ne, Memory.all_erased_iff, or_assoc]

theorem profileOf_of_rejected (h : imageRejected m = true) : profileOf m = fallbackProfile := if_pos h

theorem profileOf_of_accepted (h : imageRejected m = false) : profileOf m = (readProfile m).clampFields :=
  if_neg (Bool.not_eq_true _ ▸ h)

theorem imageClamped_of_rejected (h : imageRejected m = true) : imageClamped m = false := by
  rw [imageClamped, h, Bool.not_true, Bool.false_and]

theorem imageClamped_of_accepted (h : imageRejected m = false) :
    imageClamped m = true ↔ (readProfile m).clampFields ≠ readProfile m := by
  rw [imageClamped, h, Bool.not_false, Bool.true_and, bne_iff_ne]

end

/-! ### The places of the fields -/

section

variable (m : Memory)

theorem readProfile_loadRow {i : Nat} (hi : i < 4) :
    (readProfile m).loadRow i =
      ⟨imageU16 m (16 + 6 * i), imageU16 m (16 + 6 * i + 2), imageU16 m (16 + 6 * i + 4)⟩ := by
  have hheight : 16 + 6 * i + 2 = 18 + 6 * i := by omega
  have hshare : 16 + 6 * i + 4 = 20 + 6 * i := by omega
  simp [Profile.loadRow, readProfile, List.getElem?_range hi, hheight, hshare]

theorem readProfile_gripRow {b : Nat} (hb : b < 14) :
    (readProfile m).gripRow b = ⟨imageU16 m (40 + 4 * b), imageU16 m (40 + 4 * b + 2)⟩ := by
  have htarget : 40 + 4 * b + 2 = 42 + 4 * b := by omega
  simp [Profile.gripRow, readProfile, List.getElem?_range hb, htarget]

theorem readProfile_modes (mode : Mode) :
    (readProfile m).modes.get mode = readModeProfile m (96 + 20 * (mode.number - 1)) := by
  cases mode <;> rfl

theorem readProfile_bindings {k : Nat} {e : EntryName} (h : EntryName.all[k]? = some e) :
    (readProfile m).bindings.get e = readBinding m (176 + 6 * k) := by
  obtain ⟨hk, -⟩ := List.getElem?_eq_some_iff.mp h
  have hk : k < 8 := hk
  interval_cases k <;> (cases h; rfl)

theorem readBinding_eq (a : Nat) :
    readBinding m a = ⟨imageU16 m a, imageU8 m (a + 2), imageU16 m (a + 3), decide (imageU8 m (a + 5) ≠ 0)⟩ := by
  simp [readBinding, bne, beq_eq_decide]

end

/-! ### Fields within their ranges -/

theorem clampNat_of_within {lo hi x : Nat} (h : within lo hi x) : clampNat lo hi x = x := by
  obtain ⟨hlo, hhi⟩ := h
  rw [clampNat, if_neg (Nat.not_lt_of_le hlo), if_neg (Nat.not_lt_of_le hhi)]

theorem clampNat_zero_of_le {hi x : Nat} (h : x ≤ hi) : clampNat 0 hi x = x := clampNat_of_within ⟨Nat.zero_le x, h⟩

/-- A mode profile in its ranges, which meets both constraints, is left alone (R48, R49). -/
theorem ModeProfile.constrain_clampFields_of_inRange {p : ModeProfile} (h : p.inRange) :
    p.clampFields.constrain = p := by
  obtain ⟨hgrip, hslip, hcut, htracking, hrecovery, hhold, hpermission, hfloor, hmax, hrise, hfall, hfront, hrear,
    hrises, hfloors⟩ := h
  have hclamped : p.clampFields = p := by
    simp only [ModeProfile.clampFields, clampNat_of_within hgrip, clampNat_of_within hslip, clampNat_of_within hcut,
      clampNat_of_within htracking, clampNat_of_within hrecovery, clampNat_of_within hhold,
      clampNat_zero_of_le hpermission, clampNat_zero_of_le hfloor, clampNat_of_within hmax, clampNat_of_within hrise,
      clampNat_of_within hfall, clampNat_zero_of_le hfront, clampNat_zero_of_le hrear]
  rw [hclamped, ModeProfile.constrain_eq, Nat.min_eq_right hrises, Nat.min_eq_right hfloors]

theorem LoadRow.clampFields_of_inRange {r : LoadRow}
    (h : r.added ≤ 400 ∧ within 300 1200 r.height ∧ within 256 768 r.rearShare) : r.clampFields = r := by
  obtain ⟨hadded, hheight, hshare⟩ := h
  rw [LoadRow.clampFields, clampNat_zero_of_le hadded, clampNat_of_within hheight, clampNat_of_within hshare]

theorem GripRow.clampFields_of_inRange {r : GripRow} (h : within 205 1536 r.muBase ∧ within 16 512 r.slipTarget) :
    r.clampFields = r := by
  obtain ⟨hmu, hslip⟩ := h
  rw [GripRow.clampFields, clampNat_of_within hmu, clampNat_of_within hslip]

theorem Binding.clampFields_of_inRange {b : Binding}
    (h : b.topic ≤ 1023 ∧ b.sender ≤ 31 ∧ within 2 1000 b.deadline) : b.clampFields = b := by
  obtain ⟨htopic, hsender, hdeadline⟩ := h
  rw [Binding.clampFields, clampNat_zero_of_le htopic, clampNat_zero_of_le hsender, clampNat_of_within hdeadline]

theorem ModeTable.map_get (t : ModeTable) (f : ModeProfile → ModeProfile) (mode : Mode) :
    (t.map f).get mode = f (t.get mode) := by
  cases mode <;> rfl

theorem BindingTable.map_get (t : BindingTable) (f : Binding → Binding) (e : EntryName) :
    (t.map f).get e = f (t.get e) := by
  cases e <;> rfl

theorem ModeTable.ext_get {t u : ModeTable} (h : ∀ mode, t.get mode = u.get mode) : t = u := by
  obtain ⟨wet, road, tour, dynamic⟩ := t
  obtain ⟨wet', road', tour', dynamic'⟩ := u
  rw [ModeTable.mk.injEq]
  exact ⟨h .wet, h .road, h .tour, h .dynamic⟩

theorem BindingTable.ext_get {t u : BindingTable} (h : ∀ e, t.get e = u.get e) : t = u := by
  obtain ⟨speeds, rates, accel, lean, engine, brake, suspension, dash⟩ := t
  obtain ⟨speeds', rates', accel', lean', engine', brake', suspension', dash'⟩ := u
  rw [BindingTable.mk.injEq]
  exact ⟨h .wheelSpeeds, h .inertialRates, h .inertialAccel, h .inertialLean, h .engineState, h .brakeState,
    h .suspensionState, h .dashSelect⟩

theorem clampCutPeriod_of_inRange {x : Nat} (h : within 16 48 x) (hmultiple : x % 8 = 0) : clampCutPeriod x = x := by
  rw [clampCutPeriod, clampNat_of_within h]
  omega

/-- A profile in its ranges is left alone by the loader's clamps (R182). -/
theorem Profile.clampFields_of_inRange {p : Profile} (h : p.inRange) : p.clampFields = p := by
  obtain ⟨hstation, -, hmode, hlean, hblind, hperiod, hmultiple, hmass, hbase, hradius, hfront, hrear, -, hload, -,
    hgrip, hmodes, hbindings⟩ := h
  have hloadTable : p.loadTable.map LoadRow.clampFields = p.loadTable :=
    (List.map_congr_left fun r hr => LoadRow.clampFields_of_inRange (hload r hr)).trans (List.map_id _)
  have hgripMap : p.gripMap.map GripRow.clampFields = p.gripMap :=
    (List.map_congr_left fun r hr => GripRow.clampFields_of_inRange (hgrip r hr)).trans (List.map_id _)
  have hmodeTable : (p.modes.map fun q => q.clampFields.constrain) = p.modes := ModeTable.ext_get fun mode =>
    (ModeTable.map_get _ _ mode).trans (ModeProfile.constrain_clampFields_of_inRange (hmodes mode))
  have hbindingTable : p.bindings.map Binding.clampFields = p.bindings := BindingTable.ext_get fun e =>
    (BindingTable.map_get _ _ e).trans (Binding.clampFields_of_inRange (hbindings e))
  rw [Profile.clampFields, clampNat_zero_of_le hstation, clampNat_of_within hmode, clampNat_zero_of_le hlean,
    clampNat_zero_of_le hblind, clampCutPeriod_of_inRange hperiod hmultiple, clampNat_of_within hmass,
    clampNat_of_within hbase, clampNat_of_within hradius, clampNat_of_within hfront, clampNat_of_within hrear,
    hloadTable, hgripMap, hmodeTable, hbindingTable]

/-! ### Fields past their ranges -/

section

variable (p : Profile)

theorem Profile.clampFields_loadTable {i : Nat} {r : LoadRow} (h : p.loadTable[i]? = some r) :
    p.clampFields.loadTable[i]? = some r.clampFields := by
  rw [Profile.clampFields, List.getElem?_map, h]
  rfl

theorem Profile.clampFields_gripMap {b : Nat} {r : GripRow} (h : p.gripMap[b]? = some r) :
    p.clampFields.gripMap[b]? = some r.clampFields := by
  rw [Profile.clampFields, List.getElem?_map, h]
  rfl

theorem Profile.clampFields_modes (mode : Mode) :
    p.clampFields.modes.get mode = (p.modes.get mode).clampFields.constrain := ModeTable.map_get _ _ mode

theorem Profile.clampFields_bindings (e : EntryName) :
    p.clampFields.bindings.get e = (p.bindings.get e).clampFields := BindingTable.map_get _ _ e

end

/-- Settles O8: the judgement by its three tests, the fields by their places, the clamps field by field. -/
theorem everyImageGivesAProfileInRange : Obligations.EveryImageGivesAProfileInRange := by
  intro m
  refine ⟨imageRejected_iff m, fun h => ⟨profileOf_of_rejected h, imageClamped_of_rejected h⟩,
    fun h => ⟨profileOf_of_accepted h, imageClamped_of_accepted h⟩, profileOf_inRange m, ?_, fun q => ?_⟩
  · intro byte word q
    refine ⟨rfl, rfl, rfl, rfl, rfl, rfl, rfl, rfl, rfl, rfl, rfl, rfl, rfl, rfl, fun i hi => readProfile_loadRow m hi,
      fun b hb => readProfile_gripRow m hb, fun mode a ha => ?_, fun k a e he ha => ?_⟩
    · subst ha
      exact readProfile_modes m mode
    · subst ha
      exact (readProfile_bindings m he).trans (readBinding_eq m _)
  · intro c clamp
    refine ⟨rfl, rfl, rfl, rfl, rfl, rfl, rfl, rfl, rfl, rfl, rfl, rfl, List.length_map _, List.length_map _,
      fun i r hr => q.clampFields_loadTable hr, fun b r hr => q.clampFields_gripMap hr, fun mode => ?_,
      fun e => q.clampFields_bindings e, fun h => Profile.clampFields_of_inRange h⟩
    rw [q.clampFields_modes mode, ModeProfile.constrain_eq]
    rfl

end Sys2Proof.Machine
end

section
/-! The completion of the load in a part at its power-on values (R15, R16, R40, R54, R178, R181..R184). -/

namespace Sys2Proof.Machine

/-! ### An inactive link -/

section

variable {s : State} (h : s.link.state = .inactive)

include h

/-- While the link is inactive a lamp change offers no frame (R18, R178). -/
theorem State.refreshLamp_of_inactive : s.refreshLamp.link = s.link := by
  unfold State.refreshLamp
  split
  · rfl
  · have hquiet : ∀ m : Monitor, (s.setMonitor m).offerLtStatus = s.setMonitor m := fun m => if_pos h
    rw [hquiet]
    rfl

theorem State.setCondition_of_inactive (f : Fault12) (b : Bool) : (s.setCondition f b).link = s.link := by
  unfold State.setCondition
  split
  · rfl
  · exact State.refreshLamp_of_inactive (s := s.setMonitor _) h

end

/-! ### The profile is fixed -/

section

variable (s : State)

theorem State.fixProfile_loader : s.fixProfile.loader =
    ⟨.running, s.loader.readImage, profileOf s.loader.readImage, imageRejected s.loader.readImage, none⟩ := by
  simp [State.fixProfile]

theorem State.fixProfile_responder : s.fixProfile.responder =
    { s.responder with pendingImage := s.loader.readImage } := by
  simp [State.fixProfile]

theorem State.fixProfile_link_of_inactive (h : s.link.state = .inactive) : s.fixProfile.link = s.link := by
  let image := s.loader.readImage
  let u : State := (s.setLoader ⟨.running, image, profileOf image, imageRejected image, none⟩).setResponder
    { s.responder with pendingImage := image }
  have hlink : (u.setCondition .profileFallback (imageRejected image)).link = s.link :=
    State.setCondition_of_inactive (s := u) h _ _
  exact (State.setCondition_of_inactive (congrArg Link.state hlink |>.trans h) _ _).trans hlink

/-- The judgement sets PROFILE_FALLBACK and PROFILE_CLAMPED and no other condition (R173, R181, R182). -/
theorem State.fixProfile_conditionActive (g : Fault12) :
    s.fixProfile.conditionActive g =
      if g = .profileClamped then imageClamped s.loader.readImage
      else if g = .profileFallback then imageRejected s.loader.readImage else s.conditionActive g := by
  rw [State.fixProfile, State.setCondition_conditionActive, State.setCondition_conditionActive]
  rfl

end

/-! ### The link enters SILENT -/

theorem Topics.ext_get {t u : Topics} (h : ∀ e, t.get e = u.get e) (hannounced : t.announcedResets = u.announcedResets)
    (hignored : t.ignoredResets = u.ignoredResets) : t = u := by
  obtain ⟨speeds, rates, accel, lean, engine, brake, suspension, dash, announced, ignored⟩ := t
  obtain ⟨speeds', rates', accel', lean', engine', brake', suspension', dash', announced', ignored'⟩ := u
  rw [Topics.mk.injEq]
  exact ⟨h .wheelSpeeds, h .inertialRates, h .inertialAccel, h .inertialLean, h .engineState, h .brakeState,
    h .suspensionState, h .dashSelect, hannounced, hignored⟩

theorem Topics.clearHeard_of_unheard {t : Topics} (h : ∀ e, (t.get e).heard = false) : t.clearHeard = t :=
  Topics.ext_get (fun e => by rw [Topics.get_clearHeard, ← h e]) rfl rfl

section

variable {s : State} (h : s.conditionActive .peersMissing = false)

include h

/-- With PEERS_MISSING inactive the begin of a join wait reports nothing (R15, R16). -/
theorem State.beginWait_of_quiet : s.beginWait =
    (s.setLink { s.link with state := .silent, joinWaitEnds := some (s.now + joinWait) }).setTopics
      s.topics.clearHeard := State.setCondition_of_same h

/-- The link that enters SILENT quietly waits to join, or has joined with no required entry; the queue is left. -/
theorem State.enterSilent_link_of_quiet :
    ((∃ e, (s.binding e).required = true) →
      s.enterSilent.link = { s.link with state := .silent, joinWaitEnds := some (s.now + joinWait) }) ∧
    ((∀ e, (s.binding e).required = false) →
      s.enterSilent.link = { s.link with state := .joined, joinWaitEnds := none }) := by
  refine ⟨fun hrequired => ?_, fun hnone => ?_⟩
  · rw [State.enterSilent_of_required hrequired, State.beginWait_of_quiet h]
    rfl
  · rw [State.enterSilent_of_none hnone, State.beginWait_of_quiet h]
    rfl

end

/-! ### The blocks start -/

section

variable (s : State)

/-- The part at the completion of the load with the profile fixed and the link in SILENT or JOINED (R183). -/
def State.profiled (s : State) : State := (s.setNow 0).fixProfile.enterSilent

/-- The same with the first mode record made (R48). -/
def State.moded (s : State) : State := s.profiled.setSelector (s.profiled.selector.startMode s.profiled.profile)

/-- The same with the first load record made (R40). -/
def State.recorded (s : State) : State := s.moded.recomputeLoad

theorem State.loadComplete_eq : s.loadComplete = s.recorded.startTimers.offerLtStatus := rfl

theorem State.startTimers_grip :
    s.startTimers.grip = { s.grip with reliefEnds := some (s.now + reliefPeriod) } := rfl

theorem State.startTimers_responder :
    s.startTimers.responder = { s.responder with windowEnds := some (s.now + windowTime) } := rfl

theorem State.recorded_now : s.recorded.now = 0 := by
  simp [State.recorded, State.moded, State.profiled]

theorem State.profiled_loader : s.profiled.loader =
    ⟨.running, s.loader.readImage, profileOf s.loader.readImage, imageRejected s.loader.readImage, none⟩ := by
  rw [State.profiled, State.enterSilent_loader, State.fixProfile_loader]
  rfl

theorem State.recorded_loader : s.recorded.loader = s.profiled.loader := by
  rw [State.recorded, State.recomputeLoad_loader, State.moded, State.setSelector_loader]

theorem State.recorded_responder : s.recorded.responder = { s.responder with pendingImage := s.loader.readImage } := by
  simp [State.recorded, State.moded, State.profiled, State.fixProfile_responder]

theorem State.recorded_link : s.recorded.link = s.profiled.link := by
  rw [State.recorded, State.recomputeLoad_link, State.moded, State.setSelector_link]

theorem State.recorded_monitor : s.recorded.monitor = s.profiled.monitor := by
  rw [State.recorded, State.recomputeLoad_monitor, State.moded, State.setSelector_monitor]

theorem State.loadComplete_now : s.loadComplete.now = 0 := by
  rw [State.loadComplete_eq, State.offerLtStatus_now, State.startTimers_now, State.recorded_now]

theorem State.loadComplete_loader : s.loadComplete.loader =
    ⟨.running, s.loader.readImage, profileOf s.loader.readImage, imageRejected s.loader.readImage, none⟩ := by
  rw [State.loadComplete_eq, State.offerLtStatus_loader, State.startTimers_loader, State.recorded_loader,
    State.profiled_loader]

/-- The timers of the load run from the completion (R96, R103, R129, R151, R178, R184). -/
theorem State.loadComplete_timers :
    s.loadComplete.drive.stepDue = some 50 ∧ s.loadComplete.brake.stepDue = some 50 ∧
      s.loadComplete.grip.reliefEnds = some 10000 ∧ s.loadComplete.publisher.gripStateDue = some 200 ∧
      s.loadComplete.monitor.ltStatusDue = some 1000 ∧
      s.loadComplete.responder =
        { s.responder with pendingImage := s.loader.readImage, windowEnds := some 100000 } := by
  obtain ⟨-, -, hgripState⟩ := s.recorded.startTimers.offerLtStatus_onlyAwaits
  rw [State.loadComplete_eq, State.offerLtStatus_drive, State.offerLtStatus_brake, State.offerLtStatus_grip, hgripState,
    State.offerLtStatus_monitor, State.offerLtStatus_responder, State.startTimers_drive, State.startTimers_brake,
    State.startTimers_grip, State.startTimers_publisher, State.startTimers_monitor, State.startTimers_responder,
    State.recorded_now, State.recorded_responder]
  exact ⟨rfl, rfl, rfl, rfl, rfl, rfl⟩

/-- At the completion two conditions follow the judgement, PEERS_MISSING is inactive, the others stay (R173). -/
theorem State.loadComplete_conditionActive {g : Fault12} (hg : g ≠ .peersMissing) :
    s.loadComplete.conditionActive g = (s.setNow 0).fixProfile.conditionActive g := by
  obtain ⟨-, -, -, -, hactive⟩ := (s.setNow 0).fixProfile.enterSilent_spec
  rw [State.conditionActive, State.loadComplete_eq, State.offerLtStatus_faults, State.startTimers_monitor,
    State.recorded_monitor]
  exact (hactive g).trans (if_neg hg)

end

/-! ### The link and its first frame -/

theorem Link.offer_queue_of_empty {l : Link} (ha : l.accepts) (hempty : l.queue = []) (t : TxTopic) (p : List Byte) :
    (l.offer t p).1.queue = [⟨t, l.seqs.get t + 1, p⟩] := by
  have hnew : ∀ g ∈ l.queue, g.topic ≠ t := by simp [hempty]
  have hroom : (l.takeSeq t).queue.length ≤ 3 := by simp [Link.takeSeq, hempty]
  rw [Link.offer_of_new p ha hnew, Link.enqueue_of_room _ hroom]
  simp [Link.takeSeq, hempty, insertFrame]

section

variable {s : State} (hlink : s.link = Link.initial) (hquiet : s.conditionActive .peersMissing = false)

theorem State.loadComplete_binding (s : State) (e : EntryName) :
    s.loadComplete.binding e = (s.setNow 0).fixProfile.binding e := by
  rw [State.binding, State.binding, State.profile, State.profile, State.loadComplete_loader, State.fixProfile_loader]
  rfl

theorem State.fixProfile_quiet (hquiet : s.conditionActive .peersMissing = false) :
    (s.setNow 0).fixProfile.conditionActive .peersMissing = false := by
  rw [State.fixProfile_conditionActive]
  exact hquiet

include hlink hquiet

theorem State.profiled_link :
    ((∃ e, (s.loadComplete.binding e).required = true) →
      s.profiled.link = { Link.initial with state := .silent, joinWaitEnds := some 5000 }) ∧
    ((∀ e, (s.loadComplete.binding e).required = false) →
      s.profiled.link = { Link.initial with state := .joined }) := by
  have hfixed := (s.setNow 0).fixProfile_link_of_inactive (congrArg Link.state hlink)
  obtain ⟨hsilent, hjoined⟩ := State.enterSilent_link_of_quiet (State.fixProfile_quiet hquiet)
  have hinitial : (s.setNow 0).fixProfile.link = Link.initial := hfixed.trans hlink
  rw [hinitial, State.fixProfile_now] at hsilent
  rw [hinitial] at hjoined
  simp only [State.loadComplete_binding]
  exact ⟨hsilent, hjoined⟩

/-- The link accepts offers from the completion on, and nothing waits before the first one (R15, R18). -/
theorem State.profiled_accepts :
    s.profiled.link.accepts ∧ s.profiled.link.queue = [] ∧ s.profiled.link.seqs = Link.initial.seqs := by
  obtain ⟨hsilent, hjoined⟩ := State.profiled_link hlink hquiet
  by_cases hrequired : ∃ e, (s.loadComplete.binding e).required = true
  · rw [hsilent hrequired]
    exact ⟨.inl rfl, rfl, rfl⟩
  · rw [hjoined fun e => Bool.eq_false_of_not_eq_true fun he => hrequired ⟨e, he⟩]
    exact ⟨.inr rfl, rfl, rfl⟩

theorem State.loadComplete_link :
    s.loadComplete.link = (s.profiled.link.offer .ltStatus s.loadComplete.ltStatusPayload).1 := by
  obtain ⟨haccepts, -⟩ := State.profiled_accepts hlink hquiet
  have hstart : s.recorded.startTimers.link = s.profiled.link := by rw [State.startTimers_link, State.recorded_link]
  have hactive : s.recorded.startTimers.link.state ≠ .inactive := by
    rw [hstart]
    rcases haccepts with h | h <;> simp [h]
  rw [State.loadComplete_eq, State.offerLtStatus_link hactive, State.offerLtStatus_payload, hstart]

theorem State.loadComplete_joins :
    ((∃ e, (s.loadComplete.binding e).required = true) →
      s.loadComplete.link.state = .silent ∧ s.loadComplete.link.joinWaitEnds = some 5000) ∧
    ((∀ e, (s.loadComplete.binding e).required = false) →
      s.loadComplete.link.state = .joined ∧ s.loadComplete.link.joinWaitEnds = none) := by
  obtain ⟨hsilent, hjoined⟩ := State.profiled_link hlink hquiet
  obtain ⟨hstate, -, -, hwait, -⟩ := s.profiled.link.offer_onlyOffers .ltStatus s.loadComplete.ltStatusPayload
  rw [State.loadComplete_link hlink hquiet, hstate, hwait]
  exact ⟨fun h => by rw [hsilent h]; exact ⟨rfl, rfl⟩, fun h => by rw [hjoined h]; exact ⟨rfl, rfl⟩⟩

theorem State.loadComplete_queue :
    s.loadComplete.link.queue = [⟨.ltStatus, 1, s.loadComplete.ltStatusPayload⟩] := by
  obtain ⟨haccepts, hempty, hseqs⟩ := State.profiled_accepts hlink hquiet
  rw [State.loadComplete_link hlink hquiet, Link.offer_queue_of_empty haccepts hempty, hseqs]
  rfl

end

/-! ### The mode record and the first load record -/

theorem Entry.reading_of_never {x : Entry} (h : x.freshness = .never) (i : Nat) : x.reading i = none := by
  simp [Entry.reading, Entry.usable, h]

section

variable {s : State}

theorem State.loadComplete_profile (s : State) : s.loadComplete.profile = s.profiled.profile := by
  rw [State.profile, State.profile, State.loadComplete_loader, State.profiled_loader]

theorem State.moded_selector (s : State) : s.moded.selector = s.selector.startMode s.loadComplete.profile := by
  have hselector : s.profiled.selector = s.selector := by simp [State.profiled]
  rw [State.moded, State.setSelector_selector, hselector, State.loadComplete_profile]

theorem State.loadComplete_selector (s : State) : s.loadComplete.selector =
    { s.selector.startMode s.loadComplete.profile with load := some s.moded.loadRecord } := by
  rw [← State.moded_selector, State.loadComplete_eq, State.offerLtStatus_selector, State.startTimers_selector]
  exact s.moded.recomputeLoad_selector

/-- With no entry heard the first load record is that of the default setting (R40, R42). -/
theorem State.moded_loadRecord (h : ∀ e, (s.topics.get e).freshness = .never) :
    s.moded.loadRecord =
      ⟨clampNat 250 800 (s.loadComplete.profile.baseMass + (s.loadComplete.profile.loadRow 0).added),
        (s.loadComplete.profile.loadRow 0).height, (s.loadComplete.profile.loadRow 0).rearShare, .default⟩ := by
  have hnever : ∀ e, (s.moded.topics.get e).freshness = .never := by
    obtain ⟨-, -, htopics, -⟩ := (s.setNow 0).fixProfile.enterSilent_spec
    rw [State.fixProfile_topics] at htopics
    intro e
    rw [State.moded, State.setSelector_topics, State.profiled, htopics, Topics.get_clearHeard]
    exact h e
  have hmass : s.moded.topics.addedMass = none :=
    congrArg (Option.map Int.toNat) (Entry.reading_of_never (hnever .suspensionState) 0)
  have hsetting : s.moded.topics.loadSetting = none :=
    congrArg (Option.map Int.toNat) (Entry.reading_of_never (hnever .dashSelect) 1)
  rw [State.loadRecord_of_default hmass hsetting, State.loadComplete_profile]
  rfl

/-- Without a lean record no budget is drawn from the first load record (R77). -/
theorem State.loadComplete_latest (h : s.estimator.latest = none) :
    s.loadComplete.grip.latest = s.grip.latest := by
  have hlean : s.moded.estimator.latest = none := by
    rw [State.moded, State.setSelector_estimator, State.profiled, State.enterSilent_estimator,
      State.fixProfile_estimator]
    exact h
  have hgrip : s.recorded.grip = s.grip := by
    rw [State.recorded, State.recomputeLoad_of_no_lean hlean]
    simp [State.moded, State.profiled]
  rw [State.loadComplete_eq, State.offerLtStatus_grip, State.startTimers_latest, hgrip]

/-- What the completion of the load leaves, no entry having been heard (R183). -/
theorem State.loadComplete_onlyChanges (h : ∀ e, (s.topics.get e).heard = false) :
    s.onlyChanges s.loadComplete
      [.now, .loader, .link, .selector, .grip, .drive, .brake, .publisher, .monitor, .responder] := by
  have htopics : s.loadComplete.topics = s.topics :=
    (State.loadComplete_topics s).trans (Topics.clearHeard_of_unheard h)
  intro p hp
  cases p with
  | topics => exact htopics
  | pending | draws | memory | estimator | generator => simp [State.agreesOn, State.loadComplete]
  | _ => exact absurd hp (by decide)

end

/-! ### PROFILE_LOAD_COMPLETE -/

theorem exec_profileLoadComplete_of_loading {s : State} {min : Option (List Byte)} (h : s.loader.phase = .loading 3) :
    exec (.profileLoadComplete min) s = .next (s.takeBurst 3 min).loadComplete := by
  simp only [exec, execProfileLoadComplete, h]

/-- Settles O7: the last burst completes the image, which fixes the profile; then the link and the blocks start. -/
theorem loadCompletionStartsTheBlocks : Obligations.LoadCompletionStartsTheBlocks := by
  intro min s hphase hpower hwf
  obtain ⟨hlink, htopics, -, -, hselector, hestimator, hgrip, -, -, -, -, -, -, hfaults, -⟩ := hpower
  let u : State := s.takeBurst 3 min
  have hquiet : ∀ g, u.conditionActive g = false := fun g => congrArg FaultMark.active (hfaults g)
  have hlinkInitial : u.link = Link.initial := hlink
  have hloader := u.loadComplete_loader
  obtain ⟨hdrive, hbrake, hrelief, hgripState, hltStatus, hresponder⟩ := u.loadComplete_timers
  have himage : u.loadComplete.responder.pendingImage = u.loader.readImage := by rw [hresponder]
  obtain ⟨hsilent, hjoined⟩ := State.loadComplete_joins hlinkInitial (hquiet _)
  have hmodes := u.loadComplete_selector
  rw [State.moded_loadRecord (s := u) fun e => congrArg Entry.freshness (htopics e)] at hmodes
  refine ⟨u.loadComplete, exec_profileLoadComplete_of_loading hphase, u.loadComplete_now, ?_, ?_, ?_, ?_, ?_, ?_, ?_,
    hsilent, hjoined, State.loadComplete_queue hlinkInitial (hquiet _), ?_, ?_, ?_, ?_, ?_, ?_, hdrive, hbrake, hrelief,
    hgripState, hltStatus, ?_, ?_⟩
  · rw [hloader]
  · rw [himage]
    exact s.takeBurst_pageFromBurst 3 min hwf
  · rw [himage]
    exact s.takeBurst_agreeOutsidePage 3 min
  · rw [himage, State.profile, hloader]
  · rw [himage, hloader]
  · rw [himage, State.loadComplete_conditionActive _ (by decide), State.fixProfile_conditionActive]
    rfl
  · rw [himage, State.loadComplete_conditionActive _ (by decide), State.fixProfile_conditionActive]
    rfl
  · rw [hmodes]
  · rw [hmodes]
    exact congrArg Selector.latch hselector
  · rw [hmodes]
    rfl
  · rw [hmodes]
    rfl
  · rw [hmodes]
    rfl
  · exact (State.loadComplete_latest (s := u) (congrArg Estimator.latest hestimator)).trans
      (congrArg GripUnit.latest hgrip)
  · rw [hresponder]
  · exact State.onlyChanges_trans (State.onlyChanges_mono (s.takeBurst_onlyChanges 3 min) (by decide))
      (State.loadComplete_onlyChanges fun e => congrArg Entry.heard (htopics e))

end Sys2Proof.Machine
end

section
/-! The stuff bits break every run (R192): what a sender drives, behind the run that the medium has carried, never holds
six equal levels in a row. -/

namespace Sys2Proof.Machine

/-! ### Runs of six -/

/-- No six levels in a row are equal. -/
def NoSixEqual (levels : List Level) : Prop := ∀ b, ¬ List.replicate 6 b <:+: levels

theorem noSixEqual_iff_exists_ne (levels : List Level) :
    NoSixEqual levels ↔
      ∀ (i : Nat) (b : Level), i + 6 ≤ levels.length → ∃ j, j < 6 ∧ levels[i + j]? ≠ some b := by
  simp only [NoSixEqual, List.infix_iff_getElem?, List.length_replicate, List.getElem_replicate, not_exists, not_and,
    not_forall, exists_prop]
  constructor
  · intro h i b hlength
    simpa only [Nat.add_comm i] using h b i (by omega)
  · intro h b i hlength
    simpa only [Nat.add_comm i] using h i b (by omega)

theorem noSixEqual_replicate {n : Nat} (c : Level) (h : n ≤ 5) : NoSixEqual (List.replicate n c) := by
  intro b hsix
  have hlength := hsix.length_le
  simp only [List.length_replicate] at hlength
  omega

/-- A run of five at most, which the next level ends, adds no run of six before that level. -/
theorem noSixEqual_replicate_append {n : Nat} {c d : Level} {rest : List Level} (hne : d ≠ c) (hn : n ≤ 5)
    (h : NoSixEqual (d :: rest)) : NoSixEqual (List.replicate n c ++ d :: rest) := by
  induction n with
  | zero => exact h
  | succ n ih =>
    intro b hsix
    obtain hfirst | hlater := List.infix_cons_iff.mp hsix
    · simp only [List.prefix_iff_getElem?, List.length_replicate, List.getElem_replicate] at hfirst
      have hrun : c = b := by simpa using hfirst 0 (by omega)
      have hend : d = b := by simpa using hfirst (n + 1) (by omega)
      exact hne (hend.trans hrun.symm)
    · exact ih (by omega) b hlater

/-! ### The run on the medium -/

/-- The levels of the run that the medium has carried. -/
def Run.levels (r : Run) : List Level := List.replicate r.count r.level

theorem Run.next_count_le {r : Run} (b : Level) (h : r.count < 5) : (r.next b).count ≤ 5 := by
  unfold Run.next
  split <;> simp only <;> omega

/-- A level that follows a run of five at most lengthens it or ends it. -/
theorem Run.noSixEqual_of_next {r : Run} {b : Level} {rest : List Level} (hr : r.count ≤ 5)
    (h : NoSixEqual ((r.next b).levels ++ rest)) : NoSixEqual (r.levels ++ b :: rest) := by
  by_cases hb : b = r.level
  · rw [Run.next, if_pos hb, Run.levels, List.replicate_succ'] at h
    simpa [Run.levels, hb] using h
  · rw [Run.next, if_neg hb] at h
    exact noSixEqual_replicate_append hb hr h

theorem Run.next_not_level (r : Run) : r.next (!r.level) = ⟨!r.level, 1⟩ :=
  if_neg (Bool.not_ne_self _)

/-! ### The stuffed levels -/

/-- After a run of five comes a stuff bit, which ends it; after a shorter run the next bit makes five at most. -/
theorem noSixEqual_stuffed {r : Run} (bits : List Level) (hr : r.count ≤ 5) :
    NoSixEqual (r.levels ++ stuffed r bits) := by
  induction bits generalizing r with
  | nil => simpa [stuffed, Run.levels] using noSixEqual_replicate r.level hr
  | cons b bs ih =>
    rw [stuffed]
    split
    case isTrue =>
      apply Run.noSixEqual_of_next hr
      rw [Run.next_not_level]
      exact Run.noSixEqual_of_next (by simp) (ih (Run.next_count_le b (by simp)))
    case isFalse hshort =>
      exact Run.noSixEqual_of_next hr (ih (Run.next_count_le b (by omega)))

/-- Settles O15: a sender begins the stuffed part behind an empty run, by induction on the bits of the frame. -/
theorem stuffingBreaksEveryRun : Obligations.StuffingBreaksEveryRun := fun f =>
  (noSixEqual_iff_exists_ne (encodeFrame f)).mp (noSixEqual_stuffed (r := Run.start) (frameBits f) (Nat.zero_le 5))

end Sys2Proof.Machine
end

section
/-! Every command answers a next state and leaves the queue (log entries 8 and 1): a command of the outside always runs,
an expiry runs when its timer does, a burst or a report of the serial memory in its own stage of a load or store; what
the state rules out answers the state as it is, but for the time. -/

namespace Sys2Proof.Machine

/-- The outcome is a next state, with the same commands waiting. -/
def State.KeepsQueue (s : State) (o : Host.Outcome State Fault Refusal) : Prop :=
  ∃ t, o = .next t ∧ t.pending = s.pending

theorem State.keepsQueue_next {s t : State} (h : t.pending = s.pending) : s.KeepsQueue (.next t) := ⟨t, rfl, h⟩

/-- The completion of the load runs none of the waiting commands (R183). -/
theorem State.loadComplete_pending (s : State) : s.loadComplete.pending = s.pending := by
  simp [State.loadComplete]

theorem exec_powerOn_keepsQueue (s : State) : s.KeepsQueue (exec .powerOn s) := by
  obtain ⟨t, hnext, -, hqueue, -⟩ := powerOnRestartsThePart s
  exact ⟨t, hnext, hqueue⟩

theorem exec_keepsQueue (c : Instr) (s : State) : s.KeepsQueue (exec c s) := by
  cases c with
  | powerOn => exact exec_powerOn_keepsQueue s
  | profileLoadComplete min =>
    simp only [exec, execProfileLoadComplete]
    split
    · exact State.keepsQueue_next (by rw [State.loadComplete_pending, State.takeBurst_pending])
    · exact State.keepsQueue_next rfl
  | readBurstEnd | storePageBurstEnd | storePageDone | storePageTimeout | storeReadbackComplete =>
    simp only [exec, execReadBurstEnd, execStorePageBurstEnd, execStorePageDone, execStorePageTimeout,
      execStoreReadbackComplete]
    repeat' split
    all_goals exact State.keepsQueue_next (by simp)
  | frameHeard | frameStart | arbitrationLoss | collided | ackSlotRead | mediumIdle =>
    exact State.keepsQueue_next (by simp)
  | muteExpiry | joinWaitExpiry | deadlineExpiry | staleExpiry | atRestExpiry | baseValidityExpiry | reliefExpiry
  | regulationStep | brakeStep | gripState | echoDeadlineExpiry | assertionEndExpiry | cutPeriodExpiry | ltStatus
  | windowExpiry =>
    simp only [exec, execMuteExpiry, execJoinWaitExpiry, execDeadlineExpiry, execStaleExpiry, execAtRestExpiry,
      execBaseValidityExpiry, execReliefExpiry, execRegulationStep, execBrakeStep, execGripState,
      execEchoDeadlineExpiry, execAssertionEndExpiry, execCutPeriodExpiry, execLtStatus, execWindowExpiry]
    split
    all_goals exact State.keepsQueue_next (by simp)

/-- Settles O3, by the kinds of command. -/
theorem commandsCompleteAndKeepTheQueue : Obligations.CommandsCompleteAndKeepTheQueue := exec_keepsQueue

end Sys2Proof.Machine
end

section
/-! What a step takes (log entry 1): the front of the queue, and on an empty queue the earliest running timer once it
has run out. -/

namespace Sys2Proof.Machine

/-! ### The earliest timer -/

/-- Of some timers one is the earliest, and it runs out no later than any. -/
theorem exists_earliest {l : List DueTimer} (hl : l ≠ []) : ∃ e ∈ l, earliest l = some e ∧ ∀ f ∈ l, e.1 ≤ f.1 := by
  induction l with
  | nil => exact absurd rfl hl
  | cons d rest ih =>
    by_cases hrest : rest = []
    · exact ⟨d, by simp [hrest, earliest]⟩
    · obtain ⟨e, hmem, hearliest, hleast⟩ := ih hrest
      by_cases hde : d.1 ≤ e.1
      · refine ⟨d, List.mem_cons_self, by simp [earliest, hearliest, hde], List.forall_mem_cons.mpr ⟨le_rfl, ?_⟩⟩
        exact fun f hf => hde.trans (hleast f hf)
      · refine ⟨e, List.mem_cons_of_mem d hmem, by simp [earliest, hearliest, hde], ?_⟩
        exact List.forall_mem_cons.mpr ⟨(not_le.mp hde).le, hleast⟩

/-- A timer that runs out before every other one is the earliest, wherever it stands among them. -/
theorem earliest_of_before_others {l : List DueTimer} {d : DueTimer} (hd : d ∈ l)
    (hfirst : ∀ e ∈ l, d.1 < e.1 ∨ e = d) : earliest l = some d := by
  obtain ⟨e, hmem, hearliest, hleast⟩ := exists_earliest (List.ne_nil_of_mem hd)
  obtain hlater | rfl := hfirst e hmem
  · exact absurd (hleast d hd) (not_le.mpr hlater)
  · exact hearliest

/-! ### The expiry that is due -/

theorem State.dueCommand_of_first {s : State} {d : DueTimer} (hd : d ∈ s.runningTimers) (hdue : d.1 ≤ s.now)
    (hfirst : ∀ e ∈ s.runningTimers, d.1 < e.1 ∨ e = d) : s.dueCommand = some d.2 := by
  simp only [State.dueCommand, earliest_of_before_others hd hfirst, if_pos hdue]

theorem State.dueCommand_eq_none {s : State} (h : ∀ d ∈ s.runningTimers, s.now < d.1) : s.dueCommand = none := by
  by_cases hnone : s.runningTimers = []
  · simp only [State.dueCommand, hnone, earliest]
  · obtain ⟨e, hmem, hearliest, -⟩ := exists_earliest hnone
    simp only [State.dueCommand, hearliest, if_neg (not_le.mpr (h e hmem))]

/-! ### One step -/

theorem step_of_front {s : State} {c : Instr} {rest : List Instr} (h : s.pending = c :: rest) :
    step s = exec c (s.setPending rest) := by
  simp only [step, h]

theorem step_of_due {s : State} {c : Instr} (hempty : s.pending = []) (hdue : s.dueCommand = some c) :
    step s = exec c s := by
  simp only [step, hempty, idle, hdue]

theorem step_of_idle {s : State} (hempty : s.pending = []) (hdue : s.dueCommand = none) :
    step s = .next (s.elapse 1) := by
  simp only [step, hempty, idle, hdue]

/-- Settles O1. -/
theorem stepRunsTheFrontCommand : Obligations.StepRunsTheFrontCommand := fun _ _ _ => step_of_front

/-- Settles O2: the timer that runs out before every other one is the one that an idle part finds due. -/
theorem emptyQueueTakesTheDueTimer : Obligations.EmptyQueueTakesTheDueTimer := fun _ hempty =>
  ⟨fun _ hd hdue hfirst => step_of_due hempty (State.dueCommand_of_first hd hdue hfirst),
    fun hnone => step_of_idle hempty (State.dueCommand_eq_none hnone)⟩

end Sys2Proof.Machine
end
